-- ==== Sys2Proof/Word.lean ====
section
/-! DEFINITION. The bit-vector widths the guide's chapter 11 names: a byte, a field of two bytes and a
payload word of 32 bits. Everything else that the guide counts or numbers is a `Nat`, a `Fin` or an
inductive type of its own. -/

namespace Sys2Proof

/-- One byte of a frame, a request or an image slot (11.1). -/
abbrev Byte := BitVec 8

/-- A field of two bytes, most significant byte first (11.1). -/
abbrev Half := BitVec 16

/-- A payload word, a generation or an image check value: 32 bits (R2, R183, R198). -/
abbrev Word := BitVec 32

end Sys2Proof
end

