-- ==== Sys2Proof/Config.lean ====
section
/-! DEFINITION. What the part fixes once and for all (Principal Characteristics; R22, R26, R128, R141,
R161, R166, 11.5) and the two free values of the model: the bits of a result byte that chapter 11 does
not name, and the order of the handlings of a RESTART. -/

namespace Sys2Proof.Config

/-- Slots of the pending pool (R22). -/
abbrev poolSize : Nat := 384

/-- Records held in reserve for internal arrivals (R26). -/
def reserve : Nat := 8

/-- Frames an ingress buffer holds (R141). -/
def ingressSize : Nat := 4

/-- The grant count of a link with no frame finished (R144, R147, R162). -/
def startGrant : Byte := 4

/-- Records the fault list holds (R128). -/
def faultListSize : Nat := 8

/-- The largest lost-fault count (R128, R130). -/
def maxLost : Nat := 255

/-- The largest count of a COUNT record (R29). -/
def maxCount : Nat := 15

/-- Requests the management queue holds (R166). -/
def queueSize : Nat := 8

/-- Requests of one link the management queue holds (R166). -/
def queuePerLink : Nat := 2

/-- The generation that no SAVE can follow (R188). -/
def lastGeneration : Word := 0xFFFFFFFF

/-- Part code of READ_STATUS (11.5). -/
def partCode : Byte := 0x2E

/-- Revision code of READ_STATUS (11.5). -/
def revisionCode : Byte := 0x03

/-- Bytes of results a RESPONSE holds (11.3, R201). -/
def resultBytes : Nat := 46

/-- FREE VALUE (DESIGN CHOICE, notes/assumptions/1.md). The bits of a result byte for which chapter 11
names no contents and states no 0 (such as bit 11 of bytes 0 and 1 of a pending record as read): at
the `draw`-th response that holds such bits, the byte at `position` of the results shows those bits of
this byte. No body: nothing can be proved of it, so a claim holds whatever the part sends there. -/
opaque unnamedBits (draw position : Nat) : Byte

/-- FREE VALUE (DEDUCED, notes/assumptions/19.md). Which of the handlings of a RESTART that are left is done
next: R178 lets them be taken in any order. No body: a claim holds whatever the order. -/
opaque nextHandling (draw : Nat) : Nat

end Sys2Proof.Config
end

