-- ==== Sys2Proof/Syntax.lean ====
section
/-! DEFINITION. The commands of the router: one constructor of `Instr` for each row of
spec/opcode_table.json. Each row is one step of the part, whole and indivisible
(spec/95_what_each_step_holds.md). A step acts on what State holds (a frame waits in an ingress
buffer, a request in the management queue); its operands name the link, the source or the target
it concerns, the bytes that come from outside, and the order in which the part takes things that the
guide leaves open. -/

namespace Sys2Proof

/-- A link, 0 to 15 (Conventions, scope section 6). -/
abbrev LinkNo := Fin 16

/-- A link of the source role, which is also the number of its source, 0 to 11. -/
abbrev SourceLink := Fin 12

/-- A source, 0 to 12; source 12 is the router itself. -/
abbrev SourceNo := Fin 13

/-- A target, 0 to 3. -/
abbrev TargetNo := Fin 4

/-- An entry index, 0 to 511. -/
abbrev Index := Fin 512

/-- A priority level, 0 to 7; 0 is the most urgent. -/
abbrev Level := Fin 8

/-- The written fields of an image slot before its check value, each in its stored code (11.6): the
generation, 512 entries of 4 bytes, 13 windows of 2, 64 bytes of mask map, 12 link records of 3 bytes
and 4 of 6. -/
structure SlotContents where
  generation : Word
  entries : Vector Word 512
  windows : Vector Half 13
  maskMap : Vector Byte 64
  sourceRecords : Vector (BitVec 24) 12
  targetRecords : Vector (BitVec 48) 4
  deriving DecidableEq, Repr

/-- The commands, in the order of spec/opcode_table.json.

`bytes` are the bytes of one frame as the link brings them (R196). `order` is the order in which the
Pending Store takes the chosen targets of one placement, and `pace` how many acts of an UNMASK the Mask Unit does in
the step (the taking of an entry index, and last the response), where the guide allows more than one order
(notes/assumptions/3.md and 4.md). -/
inductive Instr where
  /-- FULL_RESET (R162): power-up or RESET_N. -/
  | fullReset
  /-- IMAGE_LOAD (R185): the image load ends. -/
  | imageLoad
  /-- TRAINING_TIMER_EXPIRY (R143). -/
  | trainingTimerExpiry (link : LinkNo)
  /-- HELLO_IN_TRAINING (R144): a HELLO frame is received in TRAINING. -/
  | helloInTraining (link : LinkNo) (bytes : List Byte)
  /-- HELLO_IN_UP (R145): a HELLO frame is received in UP. -/
  | helloInUp (link : LinkNo) (bytes : List Byte)
  /-- FRAME_RECEIVE (R149): a frame is received, in any link state (R146). -/
  | frameReceive (link : LinkNo) (bytes : List Byte)
  /-- QUIET_TIMER_EXPIRY (R158). -/
  | quietTimerExpiry (link : LinkNo)
  /-- CREDIT_REFRESH (R153): 1 ms without a CREDIT frame. -/
  | creditRefresh (link : LinkNo)
  /-- FRAME_TRANSMIT (R160): the next frame of the transmit list leaves. -/
  | frameTransmit (link : LinkNo)
  /-- EXTERNAL_ARRIVAL (R43, R45): the oldest EVENT frame of a source link's buffer is passed to the Arrival Unit,
  or the one in progress there is taken. -/
  | externalArrival (source : SourceLink) (order : List TargetNo)
  /-- INTERNAL_ARRIVAL (R133, R134): the first arrival of the raise queue is presented, or the one in progress is
  taken. -/
  | internalArrival (order : List TargetNo)
  /-- RELEASE (R61): the release that UNMASK presents is taken. -/
  | release (order : List TargetNo) (pace : Nat)
  /-- CLAIM (R103): the target's oldest waiting frame, a CLAIM, is taken. -/
  | claimFrame (target : TargetNo)
  /-- REFUSE (R107). -/
  | refuseFrame (target : TargetNo)
  /-- DONE (R82). -/
  | doneFrame (target : TargetNo)
  /-- READY_FRAME (R110). -/
  | readyFrame (target : TargetNo)
  /-- LEVEL (R87). -/
  | levelFrame (target : TargetNo)
  /-- SLEEP (R114). -/
  | sleepFrame (target : TargetNo)
  /-- CLAIM_TIMER_EXPIRY (R111): the claim timer expires in OFFERED. -/
  | claimTimerExpiry (target : TargetNo)
  /-- CLAIM_TIMER_EXPIRY_WAKING (R117): the claim timer expires in WAKING. -/
  | claimTimerExpiryWaking (target : TargetNo)
  /-- HOLD_TIMER_EXPIRY (R109). -/
  | holdTimerExpiry (target : TargetNo)
  /-- COPY_PHASE_END (R15). -/
  | copyPhaseEnd
  /-- REQUEST_ADMISSION (R167): the oldest REQUEST of a link's buffer is taken. -/
  | requestAdmission (link : LinkNo)
  /-- READ_STATUS (R172), and below, one for each operation: the engine takes the oldest request of
  the queue, which names that operation. -/
  | readStatus
  /-- READ_LINK (R173). -/
  | readLink
  /-- SET_LINK (R174). -/
  | setLink
  /-- READ_TARGET (R176). -/
  | readTarget
  /-- RESET_LINK (R177). -/
  | resetLink
  /-- RESTART (R178): the engine takes a RESTART, or goes on with the one that is current. -/
  | restart
  /-- FREEZE (R180). -/
  | freeze
  /-- WRITE_ENTRY (R8). -/
  | writeEntry
  /-- WRITE_WINDOW (R9). -/
  | writeWindow
  /-- READ_ENTRY (R10). -/
  | readEntry
  /-- READ_WINDOW (R11). -/
  | readWindow
  /-- COMMIT (R13). -/
  | commit
  /-- CANCEL (R36). -/
  | cancel
  /-- READ_PENDING (R38). -/
  | readPending
  /-- MASK (R68, R69): the engine takes a MASK, or the Mask Unit goes on with the one that is current. -/
  | maskRange
  /-- UNMASK (R70): the engine takes an UNMASK, or the Mask Unit goes on with the one that is
  current. -/
  | unmaskRange (pace : Nat)
  /-- READ_MASK (R74). -/
  | readMask
  /-- READ_FAULTS (R136). -/
  | readFaults
  /-- CLEAR_FAULTS (R137). -/
  | clearFaults
  /-- SAVE (R188). -/
  | saveTables
  /-- SAVE_END (R190). `contents` and `check` are what the slot's nonvolatile memory reads back, where
  it differs from what was written (`none`: it reads back as written). -/
  | saveEnd (contents : Option SlotContents) (check : Option Word)
  /-- UNKNOWN_OP (R168). -/
  | unknownOp
  deriving DecidableEq, Repr

end Sys2Proof
end

