-- ==== Sys2Proof/WellFormed.lean ====
section
/-! DEFINITION. Which commands are well formed: a frame operand is one whole frame (R196), a HELLO
where the row is a HELLO's, and an order of targets names each target once. A
command that is not well formed is still given a meaning; no row of the table stands for it. -/

namespace Sys2Proof

/-- The kind code of a HELLO (11.2). -/
def helloCode : Byte := 0x01

/-- The bytes are exactly one frame: kind, length L, L body bytes and two check bytes (11.1, R196). -/
def isWholeFrame : List Byte → Bool
  | _ :: len :: rest => rest.length == len.toNat + 2
  | _ => false

/-- The kind byte is that of a HELLO. -/
def isHelloKind (bytes : List Byte) : Bool :=
  bytes.head? == some helloCode

/-- The order names each of the four targets once. -/
def isTargetOrder (order : List TargetNo) : Bool :=
  order.length == 4 && decide order.Nodup

/-- The command is one that a row of the opcode table stands for. -/
def Instr.wellFormed : Instr → Bool
  | .helloInTraining _ bytes => isWholeFrame bytes && isHelloKind bytes
  | .helloInUp _ bytes => isWholeFrame bytes && isHelloKind bytes
  | .frameReceive _ bytes => isWholeFrame bytes
  | .externalArrival _ order => isTargetOrder order
  | .internalArrival order => isTargetOrder order
  | .release order _ => isTargetOrder order
  | .fullReset => true
  | .imageLoad => true
  | .trainingTimerExpiry _ => true
  | .quietTimerExpiry _ => true
  | .creditRefresh _ => true
  | .frameTransmit _ => true
  | .claimFrame _ => true
  | .refuseFrame _ => true
  | .doneFrame _ => true
  | .readyFrame _ => true
  | .levelFrame _ => true
  | .sleepFrame _ => true
  | .claimTimerExpiry _ => true
  | .claimTimerExpiryWaking _ => true
  | .holdTimerExpiry _ => true
  | .copyPhaseEnd => true
  | .requestAdmission _ => true
  | .readStatus => true
  | .readLink => true
  | .setLink => true
  | .readTarget => true
  | .resetLink => true
  | .restart => true
  | .freeze => true
  | .writeEntry => true
  | .writeWindow => true
  | .readEntry => true
  | .readWindow => true
  | .commit => true
  | .cancel => true
  | .readPending => true
  | .maskRange => true
  | .unmaskRange _ => true
  | .readMask => true
  | .readFaults => true
  | .clearFaults => true
  | .saveTables => true
  | .saveEnd _ _ => true
  | .unknownOp => true

end Sys2Proof
end

