-- ==== Sys2Proof/Decode.lean ====
section
/-! DEFINITION. The command that a word spells by the opcode table's bits. No row of this hardware's
table gives bits (spec/98_reader.md: 45 rows, none with fixed bits or fields), so no word spells a
command. The byte layouts of frames, operands and records stand in Machine/Layouts.lean and
Machine/Operands.lean. -/

namespace Sys2Proof

/-- No row of the table gives bits, so every word is refused (block form of the decoder). -/
def decodeTableWord (_nbits _w : Nat) : Option Instr :=
  none

end Sys2Proof
end

