-- ==== Sys2Proof/Machine/State.lean ====
section
/-! DEFINITION. Everything the guide says the router holds, block by block, as plain data, and its value
right after full reset. The queue `pending` of waiting commands, each link's `session` number and `sent`
list, and the counter `draws` are the MODEL's own fields. -/

namespace Sys2Proof.Machine

/-! ## Table Store (R1) -/

/-- Accumulation mode of a vector entry (R2). -/
inductive Mode where
  | merge | count | queue
  deriving DecidableEq, Repr

/-- How targets are chosen from the target set (R2). -/
inductive Distribution where
  | direct | broadcast | rotate
  deriving DecidableEq, Repr

/-- A vector entry: seven fields (R2). Bit n of `targets` is set when target n is in the set. -/
structure Entry where
  valid : Bool
  vector : Byte
  level : Level
  mode : Mode
  queueLimit : Fin 9
  distribution : Distribution
  targets : BitVec 4
  deriving DecidableEq, Repr

/-- A source window (R4). -/
structure Window where
  base : Index
  size : Fin 65
  deriving DecidableEq, Repr

/-- One bank: 512 entries and 13 windows (R1). -/
structure Bank where
  entries : Vector Entry 512
  windows : Vector Window 13
  deriving DecidableEq, Repr

/-- The name of a bank (R1). -/
inductive BankName where
  | a | b
  deriving DecidableEq, Repr

/-- IDLE or COPYING (R1). -/
inductive CopyState where
  | idle | copying
  deriving DecidableEq, Repr

/-! ## Pending Store (R22 to R24) -/

/-- A slot of the pending pool, 0 to 383 (R22). -/
abbrev SlotNo := Fin Config.poolSize

/-- Where an arrival came from: source number and event number (R42). -/
structure Origin where
  source : SourceNo
  event : Byte
  deriving DecidableEq, Repr

/-- The offer fields of a record that is under offer: the tag of the offer, and void (R23). -/
structure OfferMark where
  tag : Byte
  void : Bool
  deriving DecidableEq, Repr

/-- A pending record with the slot that holds it (R22, R23). Under offer is yes exactly when `offer` is
present, so a record not under offer has no tag and is not void. `count` is present in COUNT records
only. -/
structure Record where
  slot : SlotNo
  target : TargetNo
  index : Index
  vector : Byte
  level : Level
  mode : Mode
  count : Option Nat
  payload : List Word
  origin : Origin
  offer : Option OfferMark
  deriving DecidableEq, Repr

/-! ## Delivery Controller (R77, R78, R95) -/

/-- The seven target states (R95). -/
inductive TargetState where
  | offline | ready | offered | held | asleep | waking | lost
  deriving DecidableEq, Repr

/-- An in-service entry: five fields (R78). -/
structure InService where
  vector : Byte
  level : Level
  index : Index
  origin : Origin
  claimTag : Byte
  deriving DecidableEq, Repr

/-- The current offer: its tag and the slot of the record under offer (R95). -/
structure Offer where
  tag : Byte
  slot : SlotNo
  deriving DecidableEq, Repr

/-- What the Delivery Controller keeps for one target (R77, R95). The head of `stack` is the top entry.
A timer that runs holds the units it was started with, so that a later SET_LINK does not change it
(R96). `wakeSent` is the level of the WAKE that is out, which a retransmission carries again (R117). -/
structure Target where
  state : TargetState
  stack : List InService
  threshold : Fin 9
  wakeLevel : Level
  offer : Option Offer
  tagCounter : Byte
  claimTimer : Option Byte
  holdTimer : Option Byte
  retriesLeft : Option (Fin 8)
  wakeSent : Option Level
  deriving DecidableEq, Repr

/-! ## Fault Unit (R128, R129) -/

/-- The twelve fault kinds, in the order of their event numbers 0 to 11 (R129). -/
inductive FaultKind where
  | noImage | outOfWindow | unmapped | queueFull | poolFull | countSaturated
  | targetLost | serviceAbandoned | linkFaulted | creditOverrun | protocol | saveFailed
  deriving DecidableEq, Repr

/-- A router event: a fault, or one of the notices SAVE_DONE (12) and BANK_READY (13) (R129). -/
inductive RouterEvent where
  | fault (kind : FaultKind)
  | saveDone
  | bankReady
  deriving DecidableEq, Repr

/-- A fault record (R128). -/
structure FaultRecord where
  kind : FaultKind
  link : Option LinkNo
  target : Option TargetNo
  index : Option Index
  event : Option Byte
  detail : Half
  deriving DecidableEq, Repr

/-- An internal arrival of the raise queue: its kind and its payload word (R132, R133). -/
structure Raised where
  event : RouterEvent
  payload : Word
  deriving DecidableEq, Repr

/-! ## Link Controllers (R141, R161) -/

/-- The four link states (R141). -/
inductive LinkState where
  | down | training | up | faulted
  deriving DecidableEq, Repr

/-- The role of a link, as a HELLO names it (8.2). -/
inductive Role where
  | source | target
  deriving DecidableEq, Repr

/-- The mark of a HELLO (8.2). -/
inductive Mark where
  | call | answer
  deriving DecidableEq, Repr

/-- The four rights (R168). -/
structure Rights where
  read : Bool
  write : Bool
  commit : Bool
  control : Bool
  deriving DecidableEq, Repr

/-- The fields that the link record of every link holds (R161). -/
structure LinkRecord where
  rights : Rights
  errorLimit : Fin 16
  autoRetrain : Bool
  deriving DecidableEq, Repr

/-- The further fields that the link records of links 12 to 15 hold (R161). -/
structure TimerRecord where
  claimTimeout : Byte
  retries : Fin 8
  holdTime : Byte
  deriving DecidableEq, Repr

/-- An accepted frame of an ingress buffer, its body read by its kind (11.2, R150). -/
inductive InFrame where
  | event (number : Byte) (payload : List Word)
  | request (sequence operation : Byte) (operands : List Byte)
  | claim (tag : Byte)
  | refuse (tag : Byte)
  | done (tag : Byte)
  | ready
  | level (value : Byte)
  | sleep (value : Byte)
  deriving DecidableEq, Repr

/-- The reasons an arrival is refused for, carried by NACK (R46). -/
inductive RefusalReason where
  | outOfWindow | unmapped | queueFull | poolFull
  deriving DecidableEq, Repr

/-- The reasons an ERR frame carries (11.2). -/
inductive ErrReason where
  | noOffer | badTag | busyOffer | badValue | notTop | notInService | wrongKind | lengthMismatch
  deriving DecidableEq, Repr

/-- The eleven status codes of a RESPONSE (R165). -/
inductive Status where
  | ok | denied | frozen | busy | badIndex | badValue | badLength | notPending | full | unknownOp
  | failed
  deriving DecidableEq, Repr

/-- The contents of an OFFER frame (R99). -/
structure OfferFrame where
  tag : Byte
  vector : Byte
  level : Level
  count : Nat
  origin : Origin
  index : Index
  payload : List Word
  deriving DecidableEq, Repr

/-- A frame the router sends (11.2). A CREDIT frame carries the grant count as it stands when the frame
leaves (R152), so it holds none while it waits. -/
inductive OutFrame where
  | hello (role : Role) (mark : Mark)
  | credit
  | nack (reason : RefusalReason) (event : Byte)
  | response (sequence : Byte) (status : Status) (results : List Byte)
  | offer (contents : OfferFrame)
  | wake (level : Level)
  | void (tag : Byte)
  | err (reason : ErrReason) (value : Byte)
  deriving DecidableEq, Repr

/-- A frame of a transmit list. `thenReset` marks the RESPONSE to a RESET_LINK of its own link: the
reset is taken once that frame has left (R159). -/
structure Queued where
  frame : OutFrame
  thenReset : Bool
  deriving DecidableEq, Repr

/-- A frame on a link lane: kind, body and check value; the length byte is the body's length (11.1). -/
structure Wire where
  kind : Byte
  body : List Byte
  check : Half
  deriving DecidableEq, Repr

/-- What one Link Controller holds (R141). `session` numbers the link's sessions, so that a frame or a
request can name the one it belongs to (R148); `sent` is every frame that has left the link's transmit
lane, oldest first. Both are the model's own. -/
structure Link where
  state : LinkState
  ingress : List InFrame
  grant : Byte
  errors : Nat
  transmit : List Queued
  trainingTimer : Bool
  quietTimer : Bool
  record : LinkRecord
  session : Nat
  sent : List Wire
  deriving DecidableEq, Repr

/-- An EVENT frame that has been passed to the Arrival Unit and is in progress there: the session in which it
entered the ingress buffer, its event number and its payload (R43, R46, R64). -/
structure PassedEvent where
  session : Nat
  event : Byte
  payload : List Word
  deriving DecidableEq, Repr

/-! ## Management Engine (R166) -/

/-- A request: the link and session it came on, its sequence number, operation code and operand
bytes (R164). -/
structure Request where
  link : LinkNo
  session : Nat
  sequence : Byte
  operation : Byte
  operands : List Byte
  deriving DecidableEq, Repr

/-- The save record: the link, session and sequence number of a SAVE that runs (R166). -/
structure SaveRecord where
  link : LinkNo
  session : Nat
  sequence : Byte
  deriving DecidableEq, Repr

/-- A latch's index and origin, presented to the Arrival Unit as a release (R42, R65, R70). -/
structure Latch where
  index : Index
  origin : Origin
  deriving DecidableEq, Repr

/-- A MASK that is the current request: the index the Mask Unit takes next, the last of the range, and the
number of flags newly set so far (R68, R69). -/
structure MaskRun where
  request : Request
  next : Index
  last : Index
  newly : Nat
  deriving DecidableEq, Repr

/-- An UNMASK that is the current request: the index the Mask Unit takes next, the last of the range,
the three counts of the response, and the release whose outcome it waits for (R70). -/
structure UnmaskRun where
  request : Request
  next : Nat
  last : Index
  cleared : Nat
  placed : Nat
  refused : Nat
  presented : Option Latch
  deriving DecidableEq, Repr

/-- The three handlings that RESTART asks for: of the Pending Store and the Delivery Controller together, of
the Mask Unit, and of the Arrival Unit (R178). -/
inductive RestartPart where
  | delivery | latches | pointers
  deriving DecidableEq, Repr

/-- A RESTART that is the current request, with the handlings that are not yet reported done (R178). -/
structure RestartRun where
  request : Request
  left : List RestartPart
  deriving DecidableEq, Repr

/-- The current request (R166). Every other request is finished in the step that takes it. -/
inductive CurrentRequest where
  | mask (run : MaskRun)
  | unmask (run : UnmaskRun)
  | restart (run : RestartRun)
  deriving DecidableEq, Repr

/-! ## Image Store (R183) -/

/-- A slot of the Image Store, 0 or 1. -/
abbrev ImageSlot := Fin 2

/-- The nonvolatile contents of a slot: each field is written or erased (R183). -/
structure Slot where
  generation : Option Word
  entries : Option (Vector Word 512)
  windows : Option (Vector Half 13)
  maskMap : Option (Vector Byte 64)
  sourceRecords : Option (Vector (BitVec 24) 12)
  targetRecords : Option (Vector (BitVec 48) 4)
  check : Option Word
  deriving DecidableEq, Repr

/-- What an image holds: one bank's table, the mask map and the link records (R183). -/
structure Image where
  table : Bank
  maskMap : Vector Bool 512
  records : Vector LinkRecord 16
  timers : Vector TimerRecord 4
  deriving DecidableEq, Repr

/-- The SAVE in progress: snapshot, target slot and new generation (R183, R189). -/
structure SaveRun where
  snapshot : Image
  slot : ImageSlot
  generation : Word
  deriving DecidableEq, Repr

/-- The loaded image: its slot and generation (R183). -/
structure LoadedImage where
  slot : ImageSlot
  generation : Word
  deriving DecidableEq, Repr

/-! ## The whole router -/

/-- The state of the router. INVENTORY.md lists every field with the rule that names it. -/
structure State where
  loading : Bool
  bankA : Bank
  bankB : Bank
  active : BankName
  copyState : CopyState
  frozen : Bool
  records : List Record
  pointers : Vector (Option TargetNo) 512
  arriving : Vector (Option PassedEvent) 12
  maskMap : Vector Bool 512
  latches : Vector (Option Origin) 512
  targets : Vector Target 4
  timers : Vector TimerRecord 4
  faults : List FaultRecord
  lostFaults : Nat
  raised : List Raised
  presented : Option Raised
  links : Vector Link 16
  queue : List Request
  current : Option CurrentRequest
  saveRecord : Option SaveRecord
  slots : Vector Slot 2
  summary : Vector (Option Word) 2
  saving : Option SaveRun
  loaded : Option LoadedImage
  draws : Nat
  pending : List Instr
  deriving DecidableEq, Repr

/-- The router never stops with a fault: the guide gives every event in every state an outcome. -/
inductive Fault
  deriving DecidableEq, Repr

/-- Reasons to give a command no meaning. -/
inductive Refusal where
  /-- Raised by an arm of exec for a row not modelled yet; no arm of this model raises it. Safe. -/
  | notModelled (mnemonic : String)
  deriving DecidableEq, Repr

/-! ## Reset values -/

/-- Every entry of the start table (R20). -/
def Entry.start : Entry :=
  { valid := false, vector := 0, level := 0, mode := .merge, queueLimit := 1,
    distribution := .direct, targets := 0 }

/-- Every window of the start table (R20). -/
def Window.start : Window :=
  { base := 0, size := 0 }

/-- The start table (R20). -/
def Bank.start : Bank :=
  { entries := Vector.replicate 512 Entry.start, windows := Vector.replicate 13 Window.start }

/-- No right at all (R161). -/
def Rights.none : Rights :=
  { read := false, write := false, commit := false, control := false }

/-- All four rights (R161). -/
def Rights.all : Rights :=
  { read := true, write := true, commit := true, control := true }

/-- The first three fields of a link record when no image is loaded (R161, R187). -/
def LinkRecord.start (l : LinkNo) : LinkRecord :=
  { rights := if l = 12 then Rights.all else Rights.none, errorLimit := 8, autoRetrain := true }

/-- The last three fields of a link record when no image is loaded (R96, R161, R187). -/
def TimerRecord.start : TimerRecord :=
  { claimTimeout := 32, retries := 3, holdTime := 16 }

/-- The start values: what is loaded when no image is chosen (R187). -/
def Image.start : Image :=
  { table := Bank.start
    maskMap := Vector.replicate 512 false
    records := Vector.ofFn LinkRecord.start
    timers := Vector.replicate 4 TimerRecord.start }

/-- A target after full reset (R94, R127). -/
def Target.reset : Target :=
  { state := .offline, stack := [], threshold := 8, wakeLevel := 7, offer := none, tagCounter := 0,
    claimTimer := none, holdTimer := none, retriesLeft := none, wakeSent := none }

/-- A link after full reset, with its link record, its session number and its sent frames (R162). -/
def Link.reset (record : LinkRecord) (session : Nat) (sent : List Wire) : Link :=
  { state := .down, ingress := [], grant := Config.startGrant, errors := 0, transmit := [],
    trainingTimer := false, quietTimer := false, record := record, session := session, sent := sent }

/-- A slot that has never been written (R183). -/
def Slot.erased : Slot :=
  { generation := none, entries := none, windows := none, maskMap := none, sourceRecords := none,
    targetRecords := none, check := none }

/-- A new part right after full reset, its image load not yet ended. The tables, link records, slot
summary and loaded image are set by the image load before anything reads them; until then they stand
at the start values (DESIGN CHOICE, notes/assumptions/2.md). -/
def State.reset : State :=
  { loading := true
    bankA := Bank.start
    bankB := Bank.start
    active := .a
    copyState := .idle
    frozen := false
    records := []
    pointers := Vector.replicate 512 none
    arriving := Vector.replicate 12 none
    maskMap := Vector.replicate 512 false
    latches := Vector.replicate 512 none
    targets := Vector.replicate 4 Target.reset
    timers := Vector.replicate 4 TimerRecord.start
    faults := []
    lostFaults := 0
    raised := []
    presented := none
    links := Vector.ofFn fun l => Link.reset (LinkRecord.start l) 0 []
    queue := []
    current := none
    saveRecord := none
    slots := Vector.replicate 2 Slot.erased
    summary := Vector.replicate 2 none
    saving := none
    loaded := none
    draws := 0
    pending := [] }

end Sys2Proof.Machine
end

