-- ==== Sys2Proof/Machine/Layouts.lean ====
section
/-! DEFINITION. The byte layouts of chapter 11: the frame envelope and its check (R196, R197), the frame
bodies (11.2), the codes of table and link records (11.4), and an image slot with its check value
(11.6, R198). Each layout is written as an encoder and a reader; a reader answers `none` where the
chapter names a bad value or a length that does not agree. -/

namespace Sys2Proof.Machine

/-! ## Bytes and bits -/

/-- The low `n` bytes of a number, most significant byte first (11.1). -/
def bytesOf {w : Nat} (n : Nat) (x : BitVec w) : List Byte :=
  (List.range n).map fun k => x.extractLsb' (8 * (n - 1 - k)) 8

/-- The bits of a byte, bit 7 first (R197). -/
def bitsOf (b : Byte) : List Bool :=
  [b.getLsbD 7, b.getLsbD 6, b.getLsbD 5, b.getLsbD 4, b.getLsbD 3, b.getLsbD 2, b.getLsbD 1,
    b.getLsbD 0]

/-- The byte whose bits from bit 7 down are the list's first eight, the missing ones 0. -/
def byteOfBits (bs : List Bool) : Byte :=
  (List.range 8).foldl (fun acc k => (acc <<< 1) ||| (BitVec.ofBool (bs.getD k false)).setWidth 8) 0

/-- Bits packed into bytes from bit 7 of the first byte on, the bits after the last 0 (11.5). -/
def packBits (bs : List Bool) : List Byte :=
  (List.range ((bs.length + 7) / 8)).map fun k => byteOfBits (bs.drop (8 * k))

/-! ## The checks -/

/-- One bit of a check computation (R197, R198). -/
def crcStep {w : Nat} (poly : BitVec w) (reg : BitVec w) (bit : Bool) : BitVec w :=
  if reg.msb ^^ bit then (reg <<< 1) ^^^ poly else reg <<< 1

/-- The register after all bits of the bytes, bit 7 of each first (R197, R198). -/
def crc {w : Nat} (poly init : BitVec w) (bytes : List Byte) : BitVec w :=
  (bytes.flatMap bitsOf).foldl (crcStep poly) init

/-- The check value of a frame, over kind, length and body (R197). -/
def frameCheck (kind : Byte) (body : List Byte) : Half :=
  crc 0x1021 0xFFFF (kind :: BitVec.ofNat 8 body.length :: body)

/-- The check value of an image slot, over its 2202 bytes (R198). -/
def slotCheck (bytes : List Byte) : Word :=
  ~~~ crc 0x04C11DB7 0xFFFFFFFF bytes

/-! ## The envelope (11.1) -/

/-- The first frame on the lane: kind, length L, L body bytes and two check bytes, whatever their
values; the byte after them begins the next frame (R196). `none` while the frame is not whole. -/
def Wire.ofBytes : List Byte → Option Wire
  | kind :: len :: rest =>
    match rest.drop len.toNat with
    | hi :: lo :: _ => some { kind := kind, body := rest.take len.toNat, check := hi ++ lo }
    | _ => none
  | _ => none

/-- The bytes of a frame on the lane (11.1). -/
def Wire.bytes (w : Wire) : List Byte :=
  w.kind :: BitVec.ofNat 8 w.body.length :: (w.body ++ bytesOf 2 w.check)

/-- The frame passes its check (R197). -/
def Wire.passes (w : Wire) : Bool :=
  frameCheck w.kind w.body == w.check

/-! ## Frame kinds (11.2) -/

/-- The sixteen frame kinds. -/
inductive FrameKind where
  | hello | credit | event | nack | request | response | offer | wake | void | err
  | claim | refuse | done | ready | level | sleep
  deriving DecidableEq, Repr

/-- Every frame kind, in the order of the codes. -/
def frameKinds : List FrameKind :=
  [.hello, .credit, .event, .nack, .request, .response, .offer, .wake, .void, .err,
    .claim, .refuse, .done, .ready, .level, .sleep]

/-- The kind code (11.2). -/
def FrameKind.code : FrameKind → Byte
  | .hello => 0x01 | .credit => 0x02 | .event => 0x03 | .nack => 0x04
  | .request => 0x05 | .response => 0x06 | .offer => 0x07 | .wake => 0x08
  | .void => 0x09 | .err => 0x0A | .claim => 0x0B | .refuse => 0x0C
  | .done => 0x0D | .ready => 0x0E | .level => 0x0F | .sleep => 0x10

/-- The kind a code names; codes 00h and 11h to FFh name none (11.2). -/
def FrameKind.ofCode (c : Byte) : Option FrameKind :=
  frameKinds.find? fun k => k.code == c

/-- The kinds other than HELLO that a peer may send on a link of the role (R157). -/
def FrameKind.fromPeer : Role → FrameKind → Bool
  | .source, k => k == .event || k == .request
  | .target, k =>
    k == .claim || k == .refuse || k == .done || k == .ready || k == .level || k == .sleep ||
      k == .request

/-- A HELLO's role byte (11.2). -/
def Role.code : Role → Byte
  | .source => 0x00
  | .target => 0x01

/-- A HELLO's mark byte (11.2). -/
def Mark.code : Mark → Byte
  | .call => 0x00
  | .answer => 0x01

/-- The role and mark of a HELLO body; `none` when the body is not 2 bytes long or a byte names neither
value (R199). -/
def readHello : List Byte → Option (Role × Mark)
  | [role, mark] =>
    if role = 0x00 then
      if mark = 0x00 then some (.source, .call) else if mark = 0x01 then some (.source, .answer) else none
    else if role = 0x01 then
      if mark = 0x00 then some (.target, .call) else if mark = 0x01 then some (.target, .answer) else none
    else none
  | _ => none

/-- The payload words of an EVENT body after its event number: 0, 1 or 2 whole words (11.2). -/
def readPayload : List Byte → Option (List Word)
  | [] => some []
  | [a, b, c, d] => some [a ++ b ++ c ++ d]
  | [a, b, c, d, e, f, g, h] => some [a ++ b ++ c ++ d, e ++ f ++ g ++ h]
  | _ => none

/-- The body of a frame that a peer may send, read by its kind; `none` when the body length does not
agree with the kind (R199). -/
def readBody : FrameKind → List Byte → Option InFrame
  | .event, number :: rest => (readPayload rest).map (.event number)
  | .request, seq :: op :: operands =>
    if operands.length ≤ Config.resultBytes then some (.request seq op operands) else none
  | .claim, [tag] => some (.claim tag)
  | .refuse, [tag] => some (.refuse tag)
  | .done, [tag] => some (.done tag)
  | .ready, [] => some .ready
  | .level, [value] => some (.level value)
  | .sleep, [value] => some (.sleep value)
  | _, _ => none

/-! ## Reason and status codes (11.2, 11.3) -/

/-- Reason code of a NACK (11.2). -/
def RefusalReason.code : RefusalReason → Byte
  | .outOfWindow => 0x01
  | .unmapped => 0x02
  | .queueFull => 0x03
  | .poolFull => 0x04

/-- Reason code of an ERR (11.2). -/
def ErrReason.code : ErrReason → Byte
  | .noOffer => 0x10
  | .badTag => 0x11
  | .busyOffer => 0x12
  | .badValue => 0x13
  | .notTop => 0x14
  | .notInService => 0x15
  | .wrongKind => 0x16
  | .lengthMismatch => 0x17

/-- The detail of a PROTOCOL fault: reason code × 256 plus value (R102, R129). -/
def ErrReason.detail (reason : ErrReason) (value : Byte) : Half :=
  reason.code ++ value

/-- Status code of a RESPONSE (11.3). -/
def Status.code : Status → Byte
  | .ok => 0x00 | .denied => 0x01 | .frozen => 0x02 | .busy => 0x03
  | .badIndex => 0x04 | .badValue => 0x05 | .badLength => 0x06 | .notPending => 0x07
  | .full => 0x08 | .unknownOp => 0x09 | .failed => 0x0A

/-! ## Frames the router sends (11.2, 11.3) -/

/-- The kind of a frame the router sends. -/
def OutFrame.kind : OutFrame → FrameKind
  | .hello _ _ => .hello
  | .credit => .credit
  | .nack _ _ => .nack
  | .response _ _ _ => .response
  | .offer _ => .offer
  | .wake _ => .wake
  | .void _ => .void
  | .err _ _ => .err

/-- The body of an OFFER (11.2, R99). -/
def OfferFrame.body (o : OfferFrame) : List Byte :=
  [o.tag, o.vector, BitVec.ofNat 8 o.level, BitVec.ofNat 8 o.count, BitVec.ofNat 8 o.origin.source,
    o.origin.event] ++ bytesOf 2 (BitVec.ofNat 16 o.index) ++ o.payload.flatMap (bytesOf 4)

/-- The body of a frame that leaves a link with the grant count `grant` (11.2, R152). -/
def OutFrame.body (grant : Byte) : OutFrame → List Byte
  | .hello role mark => [role.code, mark.code]
  | .credit => [grant]
  | .nack reason event => [reason.code, event]
  | .response seq status results => seq :: status.code :: results
  | .offer o => o.body
  | .wake level => [BitVec.ofNat 8 level]
  | .void tag => [tag]
  | .err reason value => [reason.code, value]

/-- The frame as it leaves the link, its check value computed (R196, R197). -/
def OutFrame.wire (grant : Byte) (f : OutFrame) : Wire :=
  { kind := f.kind.code
    body := f.body grant
    check := frameCheck f.kind.code (f.body grant) }

/-! ## Vector entries and windows (11.4) -/

/-- The targets of an entry's set, lowest first. -/
def Entry.members (e : Entry) : List TargetNo :=
  (List.finRange 4).filter fun t => e.targets.getLsbD t

/-- The tests of R3 that the types do not already make: the queue limit lies in 1 to 8, and a valid
entry has a target set that is not empty and, when DIRECT, holds exactly one target. -/
def Entry.legal (e : Entry) : Bool :=
  e.queueLimit != 0 &&
    (!e.valid || (e.targets != 0 && (e.distribution != .direct || e.members.length == 1)))

/-- Mode code (11.4). -/
def Mode.code : Mode → BitVec 2
  | .merge => 0
  | .count => 1
  | .queue => 2

/-- The mode a code names; 3 is a bad value (11.4). -/
def Mode.ofCode (c : BitVec 2) : Option Mode :=
  if c = 0 then some .merge else if c = 1 then some .count else if c = 2 then some .queue else none

/-- Distribution code (11.4). -/
def Distribution.code : Distribution → BitVec 2
  | .direct => 0
  | .broadcast => 1
  | .rotate => 2

/-- The distribution a code names; 3 is a bad value (11.4). -/
def Distribution.ofCode (c : BitVec 2) : Option Distribution :=
  if c = 0 then some .direct
  else if c = 1 then some .broadcast
  else if c = 2 then some .rotate
  else none

/-- The 4 bytes of an entry; the bits with no field are 0 (11.4). -/
def Entry.code (e : Entry) : Word :=
  e.vector ++ BitVec.ofBool e.valid ++ (0#3) ++ BitVec.ofNat 4 e.level ++ BitVec.ofNat 4 e.queueLimit ++
    e.mode.code ++ e.distribution.code ++ (0#4) ++ e.targets

/-- The entry that 4 bytes hold, their unused bits ignored; `none` when it is not legal (R3, 11.4). -/
def Entry.ofCode (w : Word) : Option Entry :=
  if hl : (w.extractLsb' 16 4).toNat < 8 then
    if hq : (w.extractLsb' 12 4).toNat < 9 then
      match Mode.ofCode (w.extractLsb' 10 2), Distribution.ofCode (w.extractLsb' 8 2) with
      | some mode, some distribution =>
        let e : Entry :=
          { valid := w.getLsbD 23
            vector := w.extractLsb' 24 8
            level := ⟨(w.extractLsb' 16 4).toNat, hl⟩
            mode := mode
            queueLimit := ⟨(w.extractLsb' 12 4).toNat, hq⟩
            distribution := distribution
            targets := w.extractLsb' 0 4 }
        if e.legal then some e else none
      | _, _ => none
    else none
  else none

/-- The window test of R4 that the types do not already make: base plus size is at most 512. -/
def Window.legal (w : Window) : Bool :=
  w.base.val + w.size.val ≤ 512

/-- The 2 bytes of a window: base in bits 15 to 7, size in bits 6 to 0 (11.4). -/
def Window.code (w : Window) : Half :=
  BitVec.ofNat 9 w.base ++ BitVec.ofNat 7 w.size

/-- The window that 2 bytes hold; `none` when it is not legal (R4, 11.4). -/
def Window.ofCode (c : Half) : Option Window :=
  if hs : (c.extractLsb' 0 7).toNat < 65 then
    let w : Window :=
      { base := (c.extractLsb' 7 9).toFin
        size := ⟨(c.extractLsb' 0 7).toNat, hs⟩ }
    if w.legal then some w else none
  else none

/-! ## Link records (11.3, 11.4) -/

/-- The rights byte: READ in bit 0, WRITE in bit 1, COMMIT in bit 2, CONTROL in bit 3 (11.3). -/
def Rights.code (r : Rights) : Byte :=
  (0#4) ++ BitVec.ofBool r.control ++ BitVec.ofBool r.commit ++ BitVec.ofBool r.write ++
    BitVec.ofBool r.read

/-- The rights a byte gives, bits 4 to 7 ignored (R200). -/
def Rights.ofCode (b : Byte) : Rights :=
  { read := b.getLsbD 0, write := b.getLsbD 1, commit := b.getLsbD 2, control := b.getLsbD 3 }

/-- The byte of yes or no (11.3). -/
def yesNoCode (b : Bool) : Byte :=
  if b then 0x01 else 0x00

/-- The choice a byte names: 01h yes, 00h no, or neither (11.3, R200). -/
def readYesNo (b : Byte) : Option Bool :=
  if b = 0x01 then some true else if b = 0x00 then some false else none

/-- The 3 bytes that the link record of every link has (11.4). -/
def LinkRecord.code (r : LinkRecord) : BitVec 24 :=
  r.rights.code ++ BitVec.ofNat 8 r.errorLimit ++ yesNoCode r.autoRetrain

/-- The error limit lies in 1 to 15 (R161). -/
def LinkRecord.legal (r : LinkRecord) : Bool :=
  r.errorLimit != 0

/-- The record that 3 bytes hold; `none` when a field lies outside its range (R161, R174). -/
def LinkRecord.ofCode (c : BitVec 24) : Option LinkRecord :=
  if hl : (c.extractLsb' 8 8).toNat < 16 then
    match readYesNo (c.extractLsb' 0 8) with
    | some auto =>
      let r : LinkRecord :=
        { rights := Rights.ofCode (c.extractLsb' 16 8)
          errorLimit := ⟨(c.extractLsb' 8 8).toNat, hl⟩
          autoRetrain := auto }
      if r.legal then some r else none
    | none => none
  else none

/-- The 3 further bytes of a target link's record (11.4). -/
def TimerRecord.code (r : TimerRecord) : BitVec 24 :=
  r.claimTimeout ++ BitVec.ofNat 8 r.retries ++ r.holdTime

/-- Claim timeout and hold time lie in 1 to 255 (R161). -/
def TimerRecord.legal (r : TimerRecord) : Bool :=
  r.claimTimeout != 0 && r.holdTime != 0

/-- The further fields that 3 bytes hold; `none` when one lies outside its range (R161, R174). -/
def TimerRecord.ofCode (c : BitVec 24) : Option TimerRecord :=
  if hr : (c.extractLsb' 8 8).toNat < 8 then
    let r : TimerRecord :=
      { claimTimeout := c.extractLsb' 16 8
        retries := ⟨(c.extractLsb' 8 8).toNat, hr⟩
        holdTime := c.extractLsb' 0 8 }
    if r.legal then some r else none
  else none

/-! ## The image slot (11.6) -/

/-- The mask map as stored: the flag of index 0 in bit 7 of the first byte (11.6). -/
def maskBytes (m : Vector Bool 512) : Vector Byte 64 :=
  Vector.ofFn fun k => byteOfBits ((List.finRange 8).map fun j => m[8 * k.val + j.val])

/-- The mask map that 64 stored bytes hold (11.6). -/
def maskOfBytes (b : Vector Byte 64) : Vector Bool 512 :=
  Vector.ofFn fun i => b[i.val / 8].getLsbD (7 - i.val % 8)

/-- The link record of link 12 plus t as 6 bytes (11.4). -/
def Image.targetRecord (im : Image) (t : TargetNo) : BitVec 48 :=
  im.records[12 + t.val].code ++ im.timers[t].code

/-- An image with its generation, in the codes of a slot (11.6). -/
def Image.contents (generation : Word) (im : Image) : SlotContents :=
  { generation := generation
    entries := im.table.entries.map Entry.code
    windows := im.table.windows.map Window.code
    maskMap := maskBytes im.maskMap
    sourceRecords := Vector.ofFn fun l => im.records[l.val].code
    targetRecords := Vector.ofFn im.targetRecord }

/-- The 2202 bytes the check value covers, in stored order (11.6, R198). -/
def slotBytes (c : SlotContents) : List Byte :=
  bytesOf 4 c.generation ++ c.entries.toList.flatMap (bytesOf 4) ++ c.windows.toList.flatMap (bytesOf 2) ++
    c.maskMap.toList ++ c.sourceRecords.toList.flatMap (bytesOf 3) ++
    c.targetRecords.toList.flatMap (bytesOf 6)

/-- Every element read, or `none` when one of them is not legal. -/
def readAll {α β : Type} {n : Nat} (f : α → Option β) (v : Vector α n) : Option (Vector β n) :=
  if h : ∀ i : Fin n, (f v[i]).isSome then some (Vector.ofFn fun i => (f v[i]).get (h i)) else none

/-- The image that a slot's codes hold; `none` when a stored value is not legal (R184). -/
def readImage (c : SlotContents) : Option Image :=
  match readAll Entry.ofCode c.entries, readAll Window.ofCode c.windows,
    readAll LinkRecord.ofCode c.sourceRecords,
    readAll (fun r : BitVec 48 => LinkRecord.ofCode (r.extractLsb' 24 24)) c.targetRecords,
    readAll (fun r : BitVec 48 => TimerRecord.ofCode (r.extractLsb' 0 24)) c.targetRecords with
  | some entries, some windows, some sources, some targets, some timers =>
    some
      { table := { entries := entries, windows := windows }
        maskMap := maskOfBytes c.maskMap
        records := (sources ++ targets : Vector LinkRecord 16)
        timers := timers }
  | _, _, _, _, _ => none

/-- A slot with its contents and its check field as given (11.6). -/
def Slot.written (c : SlotContents) (check : Option Word) : Slot :=
  { generation := some c.generation
    entries := some c.entries
    windows := some c.windows
    maskMap := some c.maskMap
    sourceRecords := some c.sourceRecords
    targetRecords := some c.targetRecords
    check := check }

/-- The generation and contents of a slot, when every one of their fields is written (R183). -/
def Slot.contents (s : Slot) : Option SlotContents :=
  match s.generation, s.entries, s.windows, s.maskMap, s.sourceRecords, s.targetRecords with
  | some g, some e, some w, some m, some r, some t =>
    some
      { generation := g, entries := e, windows := w, maskMap := m, sourceRecords := r,
        targetRecords := t }
  | _, _, _, _, _, _ => none

/-- The generation and image of a valid slot: its check field is written, the check value is that of
its contents, and every stored value is legal (R184). `none` when it is not valid. -/
def Slot.image (s : Slot) : Option (Word × Image) :=
  match s.contents, s.check with
  | some c, some check =>
    if slotCheck (slotBytes c) = check then (readImage c).map fun im => (c.generation, im) else none
  | _, _ => none

end Sys2Proof.Machine
end

