-- ==== Sys2Proof/Machine/Operands.lean ====
section
/-! DEFINITION. The operations of REQUEST frames, the right each needs, and how their operand bytes are
read (R168, R200, 11.3). -/

namespace Sys2Proof.Machine

/-- The operations (11.3). -/
inductive Operation where
  | readStatus | readLink | setLink | readTarget | resetLink | restart | freeze
  | writeEntry | writeWindow | readEntry | readWindow | commit
  | cancel | readPending | mask | unmask | readMask | readFaults | clearFaults | save
  deriving DecidableEq, Repr

/-- Every operation. -/
def operations : List Operation :=
  [.readStatus, .readLink, .setLink, .readTarget, .resetLink, .restart, .freeze,
    .writeEntry, .writeWindow, .readEntry, .readWindow, .commit,
    .cancel, .readPending, .mask, .unmask, .readMask, .readFaults, .clearFaults, .save]

/-- The operation code (11.3). -/
def Operation.code : Operation → Byte
  | .readStatus => 0x01 | .readLink => 0x02 | .setLink => 0x03 | .readTarget => 0x04
  | .resetLink => 0x05 | .restart => 0x06 | .freeze => 0x07
  | .writeEntry => 0x10 | .writeWindow => 0x11 | .readEntry => 0x12 | .readWindow => 0x13
  | .commit => 0x14
  | .cancel => 0x20 | .readPending => 0x21
  | .mask => 0x30 | .unmask => 0x31 | .readMask => 0x32
  | .readFaults => 0x40 | .clearFaults => 0x41
  | .save => 0x50

/-- The operation a code names, or none (R168). -/
def Operation.ofCode (c : Byte) : Option Operation :=
  operations.find? fun o => o.code == c

/-- The four rights, as operations need them (R168). -/
inductive Right where
  | read | write | commit | control
  deriving DecidableEq, Repr

/-- The right an operation needs (R168). -/
def Operation.right : Operation → Right
  | .readStatus => .read | .readLink => .read | .readTarget => .read
  | .setLink => .control | .resetLink => .control | .restart => .control | .freeze => .control
  | .writeEntry => .write | .writeWindow => .write
  | .readEntry => .read | .readWindow => .read
  | .commit => .commit
  | .cancel => .write | .readPending => .read
  | .mask => .write | .unmask => .write | .readMask => .read
  | .readFaults => .read | .clearFaults => .write
  | .save => .control

/-- The rights hold the right. -/
def Rights.has (r : Rights) : Right → Bool
  | .read => r.read
  | .write => r.write
  | .commit => r.commit
  | .control => r.control

/-- A number below `n`, when it lies in that range: the index test of a request (R200). -/
def inRange (n k : Nat) : Option (Fin n) :=
  if h : k < n then some ⟨k, h⟩ else none

/-- The vector entries that operand bytes hold, 4 bytes each; `none` when a part of an entry is
left over (R8). -/
def readEntryCodes : List Byte → Option (List Word)
  | [] => some []
  | a :: b :: c :: d :: rest => (readEntryCodes rest).map fun es => (a ++ b ++ c ++ d) :: es
  | _ => none

/-- The roles a selector byte names: 00h ACTIVE, 01h STAGING (11.3). -/
inductive Selector where
  | active | staging
  deriving DecidableEq, Repr

/-- The selector a byte names, or neither role (R200). -/
def Selector.ofCode (b : Byte) : Option Selector :=
  if b = 0x00 then some .active else if b = 0x01 then some .staging else none

/-- The COMMIT choice: 00h COPY, 01h KEEP (11.3). -/
inductive Choice where
  | copy | keep
  deriving DecidableEq, Repr

/-- The choice a byte names, or neither (R200). -/
def Choice.ofCode (b : Byte) : Option Choice :=
  if b = 0x00 then some .copy else if b = 0x01 then some .keep else none

/-- The part of READ_TARGET: 00h STATE, 01h STACK_LOW, 02h STACK_HIGH (11.3). -/
inductive Part where
  | state | stackLow | stackHigh
  deriving DecidableEq, Repr

/-- The part a byte names, or none of the three (R200). -/
def Part.ofCode (b : Byte) : Option Part :=
  if b = 0x00 then some .state
  else if b = 0x01 then some .stackLow
  else if b = 0x02 then some .stackHigh
  else none

/-- The first and last index of MASK and UNMASK, tested as R68 and R70 say. -/
def readRange (first last : Half) : Option (Index × Index) :=
  match inRange 512 first.toNat, inRange 512 last.toNat with
  | some f, some l => if f ≤ l then some (f, l) else none
  | _, _ => none

end Sys2Proof.Machine
end

