-- ==== Sys2Proof/Machine/Flags.lean ====
section
/-! DEFINITION. What the router shows of its state: the FAULT_N output (R135), and the bytes of the
results of 11.5, with the bits that chapter 11 does not name marked as such. -/

namespace Sys2Proof.Machine

/-- FAULT_N is asserted: the fault list is not empty or the lost-fault count is not zero (R135). -/
def State.faultAsserted (s : State) : Bool :=
  !s.faults.isEmpty || s.lostFaults != 0

/-! ## Result bytes -/

/-- A byte of a response's results: its named bits, and a mask of the bits that 11.5 names no contents
for (0 in `named`). -/
structure ResultByte where
  named : Byte
  unnamed : Byte
  deriving DecidableEq, Repr

/-- Bytes all of whose bits are named. -/
def plain (bs : List Byte) : List ResultByte :=
  bs.map fun b => { named := b, unnamed := 0 }

/-- The byte as sent at a position of the `draw`-th response that holds unnamed bits: the unnamed bits
are a free value (DESIGN CHOICE, notes/assumptions/1.md). -/
def ResultByte.sent (draw position : Nat) (b : ResultByte) : Byte :=
  if b.unnamed = 0 then b.named
  else b.named ||| (b.unnamed &&& Config.unnamedBits draw position)

/-- The results as sent. -/
def render (draw : Nat) (bs : List ResultByte) : List Byte :=
  bs.zipIdx.map fun (b, position) => b.sent draw position

/-- Some bit of the results is not named. -/
def hasUnnamed (bs : List ResultByte) : Bool :=
  bs.any fun b => b.unnamed != 0

/-! ## State codes (11.5) -/

/-- Code of a link state. -/
def LinkState.code : LinkState → Byte
  | .down => 0
  | .training => 1
  | .up => 2
  | .faulted => 3

/-- Code of a target state. -/
def TargetState.code : TargetState → Byte
  | .offline => 0
  | .ready => 1
  | .offered => 2
  | .held => 3
  | .asleep => 4
  | .waking => 5
  | .lost => 6

/-- Code of a bank name. -/
def BankName.code : BankName → Byte
  | .a => 0x00
  | .b => 0x01

/-- The flags byte of READ_STATUS: bit 0 bank B active, bit 1 COPYING, bit 2 SAVING, bit 3 freeze. -/
def State.statusFlags (s : State) : ResultByte :=
  { named := (0#4) ++ BitVec.ofBool s.frozen ++ BitVec.ofBool s.saving.isSome ++
      BitVec.ofBool (s.copyState == .copying) ++ BitVec.ofBool (s.active == .b)
    unnamed := 0xF0 }

/-- The bits of the offer byte of READ_TARGET: bit 7 offer present, bit 6 void, bits 3 to 0 retries left
or Fh when absent. -/
def offerByte (present void : Bool) (retries : Option (Fin 8)) : ResultByte :=
  { named := BitVec.ofBool present ++ BitVec.ofBool void ++ (0#2) ++
      (match retries with
        | some r => BitVec.ofNat 4 r
        | none => (0xF#4))
    unnamed := 0x30 }

/-! ## Record layouts (11.5) -/

/-- A stack entry as read, with its position from the bottom. -/
def InService.result (position : Nat) (e : InService) : List ResultByte :=
  { named := (0#1) ++ BitVec.ofNat 3 position ++ (0#1) ++ BitVec.ofNat 3 e.level, unnamed := 0x88 } ::
    plain ([e.vector] ++ bytesOf 2 (BitVec.ofNat 16 e.index) ++
      [BitVec.ofNat 8 e.origin.source, e.origin.event, e.claimTag])

/-- Event number of a fault kind (R129). -/
def FaultKind.number : FaultKind → Nat
  | .noImage => 0 | .outOfWindow => 1 | .unmapped => 2 | .queueFull => 3
  | .poolFull => 4 | .countSaturated => 5 | .targetLost => 6 | .serviceAbandoned => 7
  | .linkFaulted => 8 | .creditOverrun => 9 | .protocol => 10 | .saveFailed => 11

/-- Event number of a router event (R129). -/
def RouterEvent.number : RouterEvent → Nat
  | .fault kind => kind.number
  | .saveDone => 12
  | .bankReady => 13

/-- A fault record as read, with its position in the list (R136, 11.5). The presence byte is named whole: 11.7 gives
that of a record with link and target as 03h, so its bits 7 to 4 are 0. -/
def FaultRecord.result (position : Nat) (r : FaultRecord) : List ResultByte :=
  { named := BitVec.ofNat 3 position ++ (0#1) ++ BitVec.ofNat 4 r.kind.number, unnamed := 0x10 } ::
    plain ([(0#4) ++ BitVec.ofBool r.event.isSome ++ BitVec.ofBool r.index.isSome ++
          BitVec.ofBool r.target.isSome ++ BitVec.ofBool r.link.isSome,
        BitVec.ofNat 8 ((r.link.map Fin.val).getD 0), BitVec.ofNat 8 ((r.target.map Fin.val).getD 0)] ++
      bytesOf 2 (BitVec.ofNat 16 ((r.index.map Fin.val).getD 0)) ++ [r.event.getD 0] ++ bytesOf 2 r.detail)

/-- The byte pairs of a pending record whose bits are not all named. -/
def halfResult (named unnamed : Half) : List ResultByte :=
  [{ named := named.extractLsb' 8 8, unnamed := unnamed.extractLsb' 8 8 },
    { named := named.extractLsb' 0 8, unnamed := unnamed.extractLsb' 0 8 }]

/-- A pending record as read, with its position in its level list. -/
def Record.result (position : Nat) (r : Record) : List ResultByte :=
  halfResult (r.mode.code ++ BitVec.ofBool r.offer.isSome ++
      BitVec.ofBool ((r.offer.map OfferMark.void).getD false) ++ (0#1) ++
      BitVec.ofNat 2 r.payload.length ++ BitVec.ofNat 9 position) 0x0800 ++
    halfResult (BitVec.ofNat 4 (r.count.getD 0) ++ (0#3) ++ BitVec.ofNat 9 r.slot) 0x0E00 ++
    halfResult (BitVec.ofNat 4 r.origin.source ++ (0#3) ++ BitVec.ofNat 9 r.index) 0x0E00 ++
    plain ([r.vector, r.origin.event, (r.offer.map OfferMark.tag).getD 0] ++
      r.payload.flatMap (bytesOf 4))

/-- The records of a READ_PENDING response, from a position on: it stops at the count, at the end of the
list, or before the first record that does not fit whole in the bytes left (R201). -/
def carriedRecords : (count position room : Nat) → List Record → List (List ResultByte)
  | 0, _, _, _ => []
  | _ + 1, _, _, [] => []
  | n + 1, position, room, r :: rest =>
    let bytes := r.result position
    if bytes.length ≤ room then
      bytes :: carriedRecords n (position + 1) (room - bytes.length) rest
    else []

/-- The link record of a link as read: 3 bytes for links 0 to 11, 6 for links 12 to 15 (11.4). -/
def State.linkRecordBytes (s : State) (l : LinkNo) : List Byte :=
  bytesOf 3 s.links[l].record.code ++
    if h : 12 ≤ l.val then bytesOf 3 s.timers[l.val - 12].code else []

end Sys2Proof.Machine
end

