-- ==== Sys2Proof/Machine/Ops.lean ====
section
/-! DEFINITION. The shared operations of the blocks, which the meanings of the commands are made of: sending
and finishing frames, taking a report, the pending pool, offers and wakes, the steps of an arrival,
target frames, sessions, and taking and answering a request. -/

namespace Sys2Proof.Machine

/-! ## Links and targets -/

/-- The link of target t: 12 plus t (Conventions). -/
def targetLink (t : TargetNo) : LinkNo :=
  ⟨12 + t.val, by omega⟩

/-- The target of a link: the link number less 12 for links 12 to 15, absent for links 0 to 11. -/
def linkTarget (l : LinkNo) : Option TargetNo :=
  if h : 12 ≤ l.val then some ⟨l.val - 12, by omega⟩ else none

/-- The role of a link: SOURCE for links 0 to 11, TARGET for links 12 to 15 (chapter 8). -/
def linkRole (l : LinkNo) : Role :=
  if l.val < 12 then .source else .target

/-- The link of source n is link n. -/
def sourceLink (n : SourceLink) : LinkNo :=
  ⟨n.val, by omega⟩

/-- The link of an origin: its source when that is 0 to 11, absent when it is 12 (R47, R129). -/
def Origin.link (o : Origin) : Option LinkNo :=
  if h : o.source.val < 12 then some ⟨o.source.val, by omega⟩ else none

/-- The origin's source is the router itself (R131). -/
def Origin.isInternal (o : Origin) : Bool :=
  o.source == 12

/-- Change one link. -/
def State.modLink (s : State) (l : LinkNo) (f : Link → Link) : State :=
  { s with links := s.links.set l (f s.links[l]) }

/-- Change one target. -/
def State.modTarget (s : State) (t : TargetNo) (f : Target → Target) : State :=
  { s with targets := s.targets.set t (f s.targets[t]) }

/-- Change the pending pool. -/
def State.setRecords (s : State) (rs : List Record) : State :=
  { s with records := rs }

/-- The link is UP. -/
def State.isUp (s : State) (l : LinkNo) : Bool :=
  s.links[l].state == .up

/-! ## Sending (R148, R152, R160) -/

/-- A frame joins the transmit list. -/
def Link.append (k : Link) (q : Queued) : Link :=
  { k with transmit := k.transmit ++ [q] }

/-- Hand a frame of a session to a Link Controller, which discards it when the link is not UP or the
session is not the present one (R148). -/
def State.handOver (s : State) (l : LinkNo) (session : Nat) (q : Queued) : State :=
  if s.isUp l && s.links[l].session == session then s.modLink l fun k => k.append q else s

/-- Hand over a frame that belongs to the link's present session (R148). -/
def State.post (s : State) (l : LinkNo) (f : OutFrame) : State :=
  s.handOver l s.links[l].session { frame := f, thenReset := false }

/-- A CREDIT frame joins the transmit list unless one waits there (R152, R153). -/
def Link.placeCredit (k : Link) : Link :=
  if k.transmit.any fun q => q.frame == .credit then k
  else k.append { frame := .credit, thenReset := false }

/-- A frame of the link is finished: the grant count rises by 1, modulo 256, and a CREDIT frame is
placed (R151, R152). -/
def State.finish (s : State) (l : LinkNo) : State :=
  s.modLink l fun k => ({ k with grant := k.grant + 1 } : Link).placeCredit

/-- The frame leaves the lane at once (R143) or from the transmit list (R160). -/
def Link.emit (k : Link) (f : OutFrame) : Link :=
  { k with sent := k.sent ++ [f.wire k.grant] }

/-! ## The Fault Unit (R130 to R133, R202) -/

/-- The payload word of an internal arrival; FFh for an absent link or target (R202). -/
def eventPayload (link : Option LinkNo) (target : Option TargetNo) (detail : Half) : Word :=
  (match link with | some l => BitVec.ofNat 8 l | none => (0xFF#8)) ++
    (match target with | some t => BitVec.ofNat 8 t | none => (0xFF#8)) ++ detail

/-- Raise an internal arrival: it joins the raise queue, or replaces the payload of the arrival of its
kind that the queue holds (R133). -/
def State.raiseEvent (s : State) (e : RouterEvent) (payload : Word) : State :=
  if s.raised.any fun r => r.event == e then
    { s with raised := s.raised.map fun r => if r.event == e then { r with payload := payload } else r }
  else { s with raised := s.raised ++ [{ event := e, payload := payload }] }

/-- A fault is recorded, or counted as lost when the list is full (R130). -/
def State.recordFault (s : State) (r : FaultRecord) : State :=
  if s.faults.length < Config.faultListSize then { s with faults := s.faults ++ [r] }
  else { s with lostFaults := min Config.maxLost (s.lostFaults + 1) }

/-- The Fault Unit takes a fault report: it is recorded, and raised unless it is marked internal
(R130, R131). -/
def State.report (s : State) (r : FaultRecord) (internal : Bool) : State :=
  if internal then s.recordFault r
  else (s.recordFault r).raiseEvent (.fault r.kind) (eventPayload r.link r.target r.detail)

/-- The Fault Unit takes a notice report: it is raised and not recorded (R130, R131). -/
def State.notice (s : State) (e : RouterEvent) (detail : Half) : State :=
  s.raiseEvent e (eventPayload none none detail)

/-- A fault report that concerns a link and, for links 12 to 15, its target (R129). -/
def linkFault (kind : FaultKind) (l : LinkNo) (index : Option Index) (detail : Half) : FaultRecord :=
  { kind := kind, link := some l, target := linkTarget l, index := index, event := none, detail := detail }

/-- COUNT_SATURATED for a record of a target, on an arrival or twin of an origin (R29, R34). -/
def saturation (t : TargetNo) (i : Index) (o : Origin) (lost : Nat) : FaultRecord :=
  { kind := .countSaturated, link := o.link, target := some t, index := some i, event := some o.event,
    detail := BitVec.ofNat 16 lost }

/-! ## The pending pool (R22 to R35) -/

/-- The record in a slot. -/
def State.recordAt (s : State) (slot : SlotNo) : Option Record :=
  s.records.find? fun r => r.slot == slot

/-- The level list of a target and level, oldest record first (R24). -/
def State.levelList (s : State) (t : TargetNo) (l : Level) : List Record :=
  s.records.filter fun r => r.target == t && r.level == l

/-- The free slots, lowest first (R22). -/
def State.freeSlots (s : State) : List SlotNo :=
  (List.finRange Config.poolSize).filter fun n => s.records.all fun r => r.slot != n

/-- The free count (R22). -/
def State.freeCount (s : State) : Nat :=
  s.freeSlots.length

/-- Free the record of a slot: it leaves its list, and its slot returns to the pool (R22, R24, R35). -/
def State.freeRecord (s : State) (slot : SlotNo) : State :=
  s.setRecords (s.records.filter fun r => r.slot != slot)

/-- Change the record of a slot, which keeps its slot, list and position (R24). -/
def State.changeRecord (s : State) (slot : SlotNo) (f : Record → Record) : State :=
  s.setRecords (s.records.map fun r => if r.slot = slot then f r else r)

/-- The record that an arrival of a mode coalesces with at a target: the one of its key that is not under
offer; an arrival in mode QUEUE does not coalesce (R27, R55). -/
def State.coalesceWith (s : State) (t : TargetNo) (i : Index) (m : Mode) : Option Record :=
  if m = .queue then none
  else s.records.find? fun r => r.target == t && r.index == i && r.mode == m && r.offer.isNone

/-- The QUEUE records that a target holds for an entry index (R30). -/
def State.queueCount (s : State) (t : TargetNo) (i : Index) : Nat :=
  (s.records.filter fun r => r.target == t && r.index == i && r.mode == .queue).length

/-- A new record of an arrival, looked up at entry index `i` as entry `e` (R25). -/
def newRecord (slot : SlotNo) (t : TargetNo) (i : Index) (e : Entry) (o : Origin) (payload : List Word) :
    Record :=
  { slot := slot
    target := t
    index := i
    vector := e.vector
    level := e.level
    mode := e.mode
    count := if e.mode = .count then some 1 else none
    payload := if e.mode = .count then [] else payload
    origin := o
    offer := none }

/-- A record after a later arrival or twin is folded into it: a COUNT record counts it, at most to 15,
and a MERGE record takes its payload; the origin becomes the later one (R28, R29, R34). -/
def Record.fold (r : Record) (added : Nat) (payload : List Word) (o : Origin) : Record :=
  if r.mode = .count then
    { r with count := some (min Config.maxCount (r.count.getD 0 + added)), origin := o }
  else { r with payload := payload, origin := o }

/-- The counts lost when `added` arrivals are folded into a record (R29, R34). -/
def Record.lostCounts (r : Record) (added : Nat) : Nat :=
  if r.mode = .count then r.count.getD 0 + added - Config.maxCount else 0

/-- Fold `added` arrivals into the record, and report COUNT_SATURATED when counts are lost, marked
internal when the origin is the router itself (R28, R29, R34). -/
def State.foldInto (s : State) (r : Record) (added : Nat) (payload : List Word) (o : Origin) : State :=
  let s' := s.changeRecord r.slot fun x => x.fold added payload o
  if r.lostCounts added = 0 then s'
  else s'.report (saturation r.target r.index o (r.lostCounts added)) o.isInternal

/-! ## Offers and wakes (R89 to R100, R115, R116) -/

/-- The service bound: the smaller of the threshold and the level of the top entry, 8 when the stack is
empty (R89). -/
def Target.serviceBound (g : Target) : Nat :=
  min g.threshold.val (match g.stack with | [] => 8 | e :: _ => e.level.val)

/-- The head of the most urgent level list whose head is eligible (R89, R97). -/
def State.eligibleHead (s : State) (t : TargetNo) : Option Record :=
  (List.finRange 8).findSome? fun l =>
    if l.val < s.targets[t].serviceBound then (s.levelList t l).head? else none

/-- The contents of the OFFER frame of a record (R99). -/
def Record.offerFrame (r : Record) (tag : Byte) : OfferFrame :=
  { tag := tag
    vector := r.vector
    level := r.level
    count := if r.mode = .count then r.count.getD 0 else 1
    origin := r.origin
    index := r.index
    payload := r.payload }

/-- Make an offer of a record: tag, mark, current offer, OFFER frame, claim timer, retries, OFFERED
(R33, R98, R100). -/
def State.makeOffer (s : State) (t : TargetNo) (r : Record) : State :=
  let tag := s.targets[t].tagCounter
  let marked := s.changeRecord r.slot fun x => { x with offer := some { tag := tag, void := false } }
  (marked.modTarget t fun g =>
      { g with
        state := .offered
        offer := some { tag := tag, slot := r.slot }
        tagCounter := tag + 1
        claimTimer := some s.timers[t].claimTimeout
        retriesLeft := some s.timers[t].retries }).post (targetLink t) (.offer (r.offerFrame tag))

/-- The Delivery Controller re-examines a target: in READY, the most urgent eligible head is offered
(R90, R97). -/
def State.reexamine (s : State) (t : TargetNo) : State :=
  if s.targets[t].state = .ready then
    match s.eligibleHead t with
    | some r => s.makeOffer t r
    | none => s
  else s

/-- Send WAKE with the level that caused it; the target enters WAKING (R116). -/
def State.sendWake (s : State) (t : TargetNo) (level : Level) : State :=
  (s.modTarget t fun g =>
      { g with
        state := .waking
        claimTimer := some s.timers[t].claimTimeout
        retriesLeft := some s.timers[t].retries
        wakeSent := some level }).post (targetLink t) (.wake level)

/-- A placement or coalescing is reported for a target, with the level of the record: READY is
re-examined, and ASLEEP is woken at or below the wake level (R58, R90, R116). -/
def State.notify (s : State) (t : TargetNo) (level : Level) : State :=
  if s.targets[t].state = .asleep then
    if level ≤ s.targets[t].wakeLevel then s.sendWake t level else s
  else s.reexamine t

/-- The target enters a state in which no offer is out and no timer runs. -/
def Target.enter (state : TargetState) (g : Target) : Target :=
  { g with
    state := state, offer := none, claimTimer := none, holdTimer := none, retriesLeft := none,
    wakeSent := none }

/-- The target enters READY, which is a re-examination (R97). -/
def State.enterReady (s : State) (t : TargetNo) : State :=
  (s.modTarget t (Target.enter .ready)).reexamine t

/-- The wake test at entry into ASLEEP: the most urgent level of 0 to the wake level at which a record is
held (R115, R116). -/
def State.wakeCause (s : State) (t : TargetNo) : Option Level :=
  (List.finRange 8).find? fun l => l ≤ s.targets[t].wakeLevel && !(s.levelList t l).isEmpty

/-- The current offer of a target in OFFERED, with its record and the record's mark (R95). -/
def State.currentOffer (s : State) (t : TargetNo) : Option (Offer × Record × OfferMark) :=
  if s.targets[t].state = .offered then
    match s.targets[t].offer with
    | some o =>
      match s.recordAt o.slot with
      | some r => r.offer.map fun m => (o, r, m)
      | none => none
    | none => none
  else none

/-- The twin of a record that returns from an offer: another record of its key that is not under offer,
in mode MERGE or COUNT (R34). -/
def State.twin (s : State) (r : Record) : Option Record :=
  if r.mode = .queue then none
  else s.records.find? fun x =>
    x.slot != r.slot && x.target == r.target && x.index == r.index && x.mode == r.mode && x.offer.isNone

/-- Withdraw a record under offer: it is no longer under offer, keeps its place, and its twin is merged
into it and freed; a merge is reported as a coalescing (R34). -/
def State.withdraw (s : State) (r : Record) : State :=
  let returned := s.changeRecord r.slot fun x => { x with offer := none }
  match s.twin r with
  | none => returned
  | some w =>
    ((returned.freeRecord w.slot).foldInto r (w.count.getD 0) w.payload w.origin).notify r.target r.level

/-- An ERR frame to a target, with the PROTOCOL fault that goes with it (R83, R84, R88, R102). -/
def State.sendErr (s : State) (t : TargetNo) (reason : ErrReason) (value : Byte) (index : Option Index) :
    State :=
  (s.post (targetLink t) (.err reason value)).report
    (linkFault .protocol (targetLink t) index (reason.detail value)) false

/-! ## Arrivals (R42 to R62) -/

/-- The kinds of arrival that differ in the pool figure (R42, R57). -/
inductive ArrivalKind where
  | external | internal | release
  deriving DecidableEq, Repr

/-- An arrival presented to the Arrival Unit (R42). -/
structure Arrival where
  kind : ArrivalKind
  origin : Origin
  payload : List Word
  deriving DecidableEq, Repr

/-- The outcome of an arrival (R45). -/
inductive ArrivalOutcome where
  | placed
  | latched
  | refused (reason : RefusalReason)
  deriving DecidableEq, Repr

/-- The fault kind of a refusal (R47). -/
def RefusalReason.kind : RefusalReason → FaultKind
  | .outOfWindow => .outOfWindow
  | .unmapped => .unmapped
  | .queueFull => .queueFull
  | .poolFull => .poolFull

/-- The report of a refusal: detail is the origin source × 256 plus the value of its kind (R47). -/
def refusal (o : Origin) (reason : RefusalReason) (t : Option TargetNo) (i : Option Index) (value : Nat) :
    FaultRecord :=
  { kind := reason.kind, link := o.link, target := t, index := i, event := some o.event,
    detail := BitVec.ofNat 16 (o.source.val * 256 + value) }

/-- An arrival is refused: the Fault Unit takes the report, marked internal when the origin is the router
itself (R47, R60, R72). -/
def State.refuseArrival (s : State) (o : Origin) (reason : RefusalReason) (t : Option TargetNo)
    (i : Option Index) (value : Nat) : State × ArrivalOutcome :=
  (s.report (refusal o reason t i value) o.isInternal, .refused reason)

/-- The bank a name names. -/
def State.bank (s : State) : BankName → Bank
  | .a => s.bankA
  | .b => s.bankB

/-- Replace the bank a name names. -/
def State.setBank (s : State) (n : BankName) (b : Bank) : State :=
  match n with
  | .a => { s with bankA := b }
  | .b => { s with bankB := b }

/-- The other bank. -/
def BankName.other : BankName → BankName
  | .a => .b
  | .b => .a

/-- The bank that arrival lookups read (R1). -/
def State.activeBank (s : State) : Bank :=
  s.bank s.active

/-- The bank that table writes go to (R1). -/
def State.stagingBank (s : State) : Bank :=
  s.bank s.active.other

/-- The entry index of an event number inside a window: base plus the number (R4, R48). A legal window
puts every number below its size at an index of the bank. -/
def Window.index (w : Window) (event : Byte) : Option Index :=
  if event.toNat < w.size.val then inRange 512 (w.base.val + event.toNat) else none

/-- The search order of a ROTATE entry: the targets of the set above the pointer, lowest first, then the
others, lowest first (R53). -/
def searchOrder (members : List TargetNo) (pointer : Option TargetNo) : List TargetNo :=
  match pointer with
  | none => members
  | some p => (members.filter fun t => p < t) ++ members.filter fun t => t ≤ p

/-- The target qualifies for a ROTATE search: it is neither OFFLINE nor LOST (R53). -/
def State.qualifies (s : State) (t : TargetNo) : Bool :=
  s.targets[t].state != .offline && s.targets[t].state != .lost

/-- The chosen targets of an entry, lowest first (R51, R53). -/
def State.chosenTargets (s : State) (i : Index) (e : Entry) : List TargetNo :=
  match e.distribution with
  | .direct => e.members.take 1
  | .broadcast => e.members
  | .rotate =>
    let order := searchOrder e.members s.pointers[i]
    ((order.find? s.qualifies).or order.head?).toList

/-- The chosen targets in the order in which the Pending Store takes them (notes/assumptions/3.md). -/
def takenOrder (order chosen : List TargetNo) : List TargetNo :=
  (order ++ chosen).eraseDups.filter fun t => t ∈ chosen

/-- One target's part of a placement: the arrival coalesces, or makes a new record in the lowest-numbered
free slot at the tail of its list (R25, R28, R29). -/
def State.placeFor (s : State) (i : Index) (e : Entry) (o : Origin) (payload : List Word) (t : TargetNo) :
    State :=
  match s.coalesceWith t i e.mode with
  | some r => s.foldInto r 1 payload o
  | none =>
    match s.freeSlots.head? with
    | some slot => s.setRecords (s.records ++ [newRecord slot t i e o payload])
    | none => s

/-- The level that the Pending Store reports for a target's part of a placement: that of the record made
or reached (R25, R28, R58). -/
def State.reachedLevel (s : State) (i : Index) (e : Entry) (t : TargetNo) : Level :=
  match s.coalesceWith t i e.mode with
  | some r => r.level
  | none => e.level

/-- Placement, taken whole: every target's record or coalescing, then a report for each target reached,
then the rotation pointer of a ROTATE entry (R31, R54, R58). -/
def State.place (s : State) (i : Index) (e : Entry) (o : Origin) (payload : List Word)
    (chosen order : List TargetNo) : State :=
  let taken := takenOrder order chosen
  let placed := taken.foldl (fun x t => x.placeFor i e o payload t) s
  let told := taken.foldl (fun x t => x.notify t (s.reachedLevel i e t)) placed
  match e.distribution, chosen.head? with
  | .rotate, some t => { told with pointers := told.pointers.set i (some t) }
  | _, _ => told

/-- The number k of chosen targets that need a new record (R55). -/
def State.newRecordsNeeded (s : State) (i : Index) (e : Entry) (chosen : List TargetNo) : Nat :=
  (chosen.filter fun t => (s.coalesceWith t i e.mode).isNone).length

/-- The pool test: an arrival that needs no record passes; otherwise the free count is at least k, plus
the reserve for an external arrival or a release (R26, R57). -/
def State.poolAdmits (s : State) (kind : ArrivalKind) (k : Nat) : Bool :=
  k == 0 || (if kind = .internal then k else k + Config.reserve) ≤ s.freeCount

/-- The chosen target that fails the queue-limit test, lowest first (R56). -/
def State.fullTarget (s : State) (i : Index) (e : Entry) (chosen : List TargetNo) : Option TargetNo :=
  if e.mode = .queue then chosen.find? fun t => e.queueLimit.val ≤ s.queueCount t i else none

/-- The steps of an arrival from the mask step on, at an entry index and with the entry that its one
lookup returned (R45, R49 to R58). -/
def State.arriveAt (s : State) (a : Arrival) (order : List TargetNo) (i : Index) (e : Entry) :
    State × ArrivalOutcome :=
  if s.maskMap[i] then ({ s with latches := s.latches.set i (some a.origin) }, .latched)
  else if !e.valid then s.refuseArrival a.origin .unmapped none (some i) 0
  else
    let chosen := s.chosenTargets i e
    match s.fullTarget i e chosen with
    | some t => s.refuseArrival a.origin .queueFull (some t) (some i) e.queueLimit.val
    | none =>
      if s.poolAdmits a.kind (s.newRecordsNeeded i e chosen) then
        (s.place i e a.origin a.payload chosen order, .placed)
      else s.refuseArrival a.origin .poolFull none (some i) s.freeCount

/-- An external or internal arrival: the lookup in the active bank and the window step, then the rest
(R5, R45, R48). -/
def State.arrive (s : State) (a : Arrival) (order : List TargetNo) : State × ArrivalOutcome :=
  let w := s.activeBank.windows[a.origin.source]
  match w.index a.origin.event with
  | none => s.refuseArrival a.origin .outOfWindow none none w.size.val
  | some i => s.arriveAt a order i s.activeBank.entries[i]

/-! ## Ingress buffers (R150, R151) -/

/-- The frame goes to the Arrival Unit. -/
def InFrame.isEvent : InFrame → Bool
  | .event _ _ => true
  | _ => false

/-- The frame goes to the Management Engine. -/
def InFrame.isRequest : InFrame → Bool
  | .request _ _ _ => true
  | _ => false

/-- The frame goes to the Delivery Controller. -/
def InFrame.isTargetFrame (f : InFrame) : Bool :=
  !f.isEvent && !f.isRequest

/-- The oldest waiting frame of a consumer's kinds, on a link in UP and outside the image load (R18,
R150). -/
def State.waiting (s : State) (l : LinkNo) (p : InFrame → Bool) : Option InFrame :=
  if s.isUp l && !s.loading then s.links[l].ingress.find? p else none

/-- The consumer has finished with the oldest frame of its kinds: the frame leaves the buffer and is
finished (R150, R151). -/
def State.finishFrame (s : State) (l : LinkNo) (p : InFrame → Bool) : State :=
  (s.modLink l fun k => { k with ingress := k.ingress.eraseP p }).finish l

/-- The target frame in progress of a target that is not OFFLINE: the oldest one in the buffer of its link, which
the Link Controller passes at once when none is in progress, and which holds its place there until it has been taken
(R95, R122, R150; DEDUCED, notes/assumptions/22.md). -/
def State.targetFrame (s : State) (t : TargetNo) : Option InFrame :=
  if s.targets[t].state = .offline then none else s.waiting (targetLink t) InFrame.isTargetFrame

/-- The Delivery Controller has taken the target frame (R151). -/
def State.finishTargetFrame (s : State) (t : TargetNo) : State :=
  s.finishFrame (targetLink t) InFrame.isTargetFrame

/-! ## Taking a target frame (R82 to R88, R103 to R110, R114) -/

/-- A CLAIM or REFUSE that names no current offer: ERR(BAD_TAG) in OFFERED, ERR(NO_OFFER) in every other
state (R105, R106). -/
def State.refuseTag (s : State) (t : TargetNo) (tag : Byte) : State :=
  match s.currentOffer t with
  | some (_, r, _) => s.sendErr t .badTag tag (some r.index)
  | none => s.sendErr t .noOffer tag none

/-- An accepted claim: the record becomes the top in-service entry and is freed (R80, R103). -/
def State.acceptClaim (s : State) (t : TargetNo) (o : Offer) (r : Record) : State :=
  let entry : InService :=
    { vector := r.vector, level := r.level, index := r.index, origin := r.origin, claimTag := o.tag }
  ((s.freeRecord r.slot).modTarget t fun g => { g with stack := entry :: g.stack }).enterReady t

/-- CLAIM taken with a tag (R103 to R106). -/
def State.takeClaim (s : State) (t : TargetNo) (tag : Byte) : State :=
  match s.currentOffer t with
  | some (o, r, m) =>
    if tag = o.tag then
      if m.void then ((s.post (targetLink t) (.void tag)).freeRecord r.slot).enterReady t
      else s.acceptClaim t o r
    else s.refuseTag t tag
  | none => s.refuseTag t tag

/-- REFUSE taken with a tag (R105 to R108). -/
def State.takeRefuse (s : State) (t : TargetNo) (tag : Byte) : State :=
  match s.currentOffer t with
  | some (o, r, m) =>
    if tag = o.tag then
      if m.void then (s.freeRecord r.slot).enterReady t
      else
        (s.withdraw r).modTarget t fun g =>
          { Target.enter .held g with holdTimer := some s.timers[t].holdTime }
    else s.refuseTag t tag
  | none => s.refuseTag t tag

/-- DONE taken with a tag: the top entry is compared first (R82 to R85). -/
def State.takeDone (s : State) (t : TargetNo) (tag : Byte) : State :=
  match s.targets[t].stack with
  | [] => s.sendErr t .notInService tag none
  | top :: deeper =>
    if top.claimTag = tag then (s.modTarget t fun g => { g with stack := deeper }).reexamine t
    else
      match deeper.find? fun e => e.claimTag == tag with
      | some e => s.sendErr t .notTop tag (some e.index)
      | none => s.sendErr t .notInService tag none

/-- READY frame taken (R109, R110). -/
def State.takeReady (s : State) (t : TargetNo) : State :=
  match s.targets[t].state with
  | .offline => s
  | .ready => s
  | .offered => s
  | .held => s.enterReady t
  | .asleep => s.enterReady t
  | .waking => s.enterReady t
  | .lost => s.enterReady t

/-- LEVEL taken with a value (R87, R88). -/
def State.takeLevel (s : State) (t : TargetNo) (value : Byte) : State :=
  match inRange 9 value.toNat with
  | some v => (s.modTarget t fun g => { g with threshold := v }).reexamine t
  | none => s.sendErr t .badValue value none

/-- The target enters ASLEEP with a wake level, and the wake test is made (R114, R115). -/
def State.enterAsleep (s : State) (t : TargetNo) (w : Level) : State :=
  let asleep := s.modTarget t fun g => { Target.enter .asleep g with wakeLevel := w }
  match asleep.wakeCause t with
  | some level => asleep.sendWake t level
  | none => asleep

/-- SLEEP taken with a value (R114). -/
def State.takeSleep (s : State) (t : TargetNo) (value : Byte) : State :=
  match inRange 8 value.toNat with
  | none => s.sendErr t .badValue value none
  | some w =>
    if s.targets[t].state = .offered then s.post (targetLink t) (.err .busyOffer value)
    else s.enterAsleep t w

/-- The Delivery Controller takes a target frame of any kind; the frames of the other blocks are not taken
here (R150). -/
def State.takeTargetFrame (s : State) (t : TargetNo) (f : InFrame) : State :=
  match f with
  | .claim tag => s.takeClaim t tag
  | .refuse tag => s.takeRefuse t tag
  | .done tag => s.takeDone t tag
  | .ready => s.takeReady t
  | .level value => s.takeLevel t value
  | .sleep value => s.takeSleep t value
  | .event _ _ => s
  | .request _ _ _ => s

/-- The target frame in progress, if any, is taken whole and finished (R123, R147, R151). -/
def State.takeInProgress (s : State) (t : TargetNo) : State :=
  match s.targetFrame t with
  | some f => (s.takeTargetFrame t f).finishTargetFrame t
  | none => s

/-! ## Sessions and link states (R120, R121, R143 to R147, R158, R159) -/

/-- End the outstanding offer of a target that leaves it unclaimed: a void record is freed, another is
withdrawn (R34, R35, R121). -/
def State.endOffer (s : State) (t : TargetNo) : State :=
  match s.currentOffer t with
  | some (_, r, m) => if m.void then s.freeRecord r.slot else s.withdraw r
  | none => s

/-- Empty the stack of a target, and report SERVICE_ABANDONED when it held entries (R91). -/
def State.abandonService (s : State) (t : TargetNo) : State :=
  match s.targets[t].stack with
  | [] => s
  | top :: rest =>
    (s.modTarget t fun g => { g with stack := [] }).report
      (linkFault .serviceAbandoned (targetLink t) (some top.index) (BitVec.ofNat 16 (rest.length + 1))) false

/-- The Delivery Controller's handling of a session end: the offer ends, the stack is emptied, the
threshold is 8 and the target is OFFLINE (R91, R121). -/
def State.targetSessionEnd (s : State) (t : TargetNo) : State :=
  if s.targets[t].state = .offline then s
  else
    ((s.endOffer t).abandonService t).modTarget t fun g =>
      { Target.enter .offline g with threshold := 8 }

/-- What a session end clears: buffer, transmit list and the link's queued requests are emptied, the grant count is
4 and the target goes OFFLINE; the error count is kept (R147, R171). -/
def State.clearSession (s : State) (l : LinkNo) : State :=
  let emptied := s.modLink l fun k => { k with ingress := [], transmit := [], grant := Config.startGrant }
  let removed := { emptied with queue := emptied.queue.filter fun r => r.link != l }
  match linkTarget l with
  | some t => removed.targetSessionEnd t
  | none => removed

/-- A session ends: on a target link the target frame in progress is taken whole first, and then the session is
cleared (R123, R147). -/
def State.sessionEnd (s : State) (l : LinkNo) : State :=
  match linkTarget l with
  | some t => (s.takeInProgress t).clearSession l
  | none => s.clearSession l

/-- The Delivery Controller's handling of a session start (R92, R120, R124). -/
def State.targetSessionStart (s : State) (t : TargetNo) : State :=
  (s.modTarget t fun g =>
      { Target.enter .ready g with stack := [], threshold := 8, tagCounter := 0, wakeLevel := 7 }).reexamine t

/-- A session starts: the link is UP with error count 0, grant count 4 and empty lists, and a peer's call
is answered by the first frame of the session (R144, R145, R160). -/
def State.sessionStart (s : State) (l : LinkNo) (answer : Bool) : State :=
  let started := s.modLink l fun k =>
    { k with
      state := .up, ingress := [], transmit := [], grant := Config.startGrant, errors := 0,
      trainingTimer := false, quietTimer := false, session := k.session + 1 }
  let answered := if answer then started.post l (.hello (linkRole l) .answer) else started
  match linkTarget l with
  | some t => answered.targetSessionStart t
  | none => answered

/-- The link enters TRAINING: it sends HELLO marked CALL and starts the training timer (R143). -/
def Link.enterTraining (l : LinkNo) (k : Link) : Link :=
  ({ k with state := .training, trainingTimer := true, quietTimer := false } : Link).emit
    (.hello (linkRole l) .call)

/-- The link enters FAULTED: its transmit list is empty and the quiet timer runs (R158). -/
def Link.enterFaulted (k : Link) : Link :=
  { k with state := .faulted, transmit := [], trainingTimer := false, quietTimer := true }

/-- The reset of RESET_LINK, by link state; a link in DOWN is not reset (R142, R159). -/
def State.resetLinkNow (s : State) (l : LinkNo) : State :=
  match s.links[l].state with
  | .down => s
  | .up => (s.sessionEnd l).modLink l (Link.enterTraining l)
  | .training => s.modLink l (Link.enterTraining l)
  | .faulted => s.modLink l (Link.enterTraining l)

/-! ## Receiving (R144, R145, R149, R154 to R157, R199) -/

/-- The error count of a link increases by 1 (R154, R155). -/
def State.countError (s : State) (l : LinkNo) : State :=
  s.modLink l fun k => { k with errors := k.errors + 1 }

/-- The error count is compared with the error limit; at the limit LINK_FAULTED is reported, the session ends, which
takes a target frame in progress first, and the link is FAULTED (R123, R147, R156). R130 leaves open the order of
LINK_FAULTED and of the reports of that frame: here it is the order of 8.13, event 4 (notes/assumptions/22.md). -/
def State.checkLimit (s : State) (l : LinkNo) : State :=
  if s.links[l].record.errorLimit.val ≤ s.links[l].errors then
    ((s.report (linkFault .linkFaulted l none 2) false).sessionEnd l).modLink l Link.enterFaulted
  else s

/-- A frame whose kind or length is refused: a PROTOCOL fault, and ERR on a target link; the frame is
finished (R157, R199). -/
def State.discardWithErr (s : State) (l : LinkNo) (reason : ErrReason) (kind : Byte) : State :=
  let told := if (linkTarget l).isSome then s.post l (.err reason kind) else s
  (told.report (linkFault .protocol l none (reason.detail kind)) false).finish l

/-- A HELLO that passes its check on a link in UP (R145). -/
def State.helloUp (s : State) (l : LinkNo) (body : List Byte) : State :=
  match readHello body with
  | some (role, mark) =>
    if role = linkRole l then
      match mark with
      | .call => (s.sessionEnd l).sessionStart l true
      | .answer => s
    else
      ((s.sessionEnd l).modLink l Link.enterFaulted).report (linkFault .linkFaulted l none 1) false
  | none => ((s.sessionEnd l).modLink l Link.enterFaulted).report (linkFault .linkFaulted l none 1) false

/-- A HELLO that passes its check on a link in TRAINING (R144). -/
def State.helloTraining (s : State) (l : LinkNo) (body : List Byte) : State :=
  match readHello body with
  | some (role, mark) =>
    if role = linkRole l then s.sessionStart l (mark == .call)
    else (s.modLink l Link.enterFaulted).report (linkFault .linkFaulted l none 1) false
  | none => (s.modLink l Link.enterFaulted).report (linkFault .linkFaulted l none 1) false

/-- A frame other than a HELLO that passes its check on a link in UP: tests 3 to 6 of R149. -/
def State.receiveOther (s : State) (l : LinkNo) (w : Wire) : State :=
  if s.links[l].ingress.length < Config.ingressSize then
    match FrameKind.ofCode w.kind with
    | some kind =>
      if FrameKind.fromPeer (linkRole l) kind then
        match readBody kind w.body with
        | some f => s.modLink l fun k => { k with ingress := k.ingress ++ [f] }
        | none => s.discardWithErr l .lengthMismatch w.kind
      else s.discardWithErr l .wrongKind w.kind
    | none => s.discardWithErr l .wrongKind w.kind
  else
    let counted := s.countError l
    ((counted.report
      (linkFault .creditOverrun l none (BitVec.ofNat 16 counted.links[l].errors)) false).finish l).checkLimit l

/-- A frame is received on a link: the tests of R149 in UP, the HELLO of R144 in TRAINING, and nothing in
DOWN and FAULTED (R146). -/
def State.receive (s : State) (l : LinkNo) (w : Wire) : State :=
  match s.links[l].state with
  | .up =>
    if w.passes then
      if w.kind = FrameKind.code .hello then s.helloUp l w.body else s.receiveOther l w
    else ((s.countError l).finish l).checkLimit l
  | .training => if w.passes && w.kind == FrameKind.code .hello then s.helloTraining l w.body else s
  | .down => s
  | .faulted => s

/-- The bytes of a frame arrive; a frame is examined when it is whole (R149, R196). -/
def State.receiveBytes (s : State) (l : LinkNo) (bytes : List Byte) : State :=
  match Wire.ofBytes bytes with
  | some w => s.receive l w
  | none => s

/-! ## Requests (R164, R168, R169) -/

/-- The answer to a request: a status and results. -/
structure Reply where
  status : Status
  results : List ResultByte
  deriving DecidableEq, Repr

/-- A status other than OK carries no results (R164). -/
def Reply.fail (status : Status) : Reply :=
  { status := status, results := [] }

/-- OK with results. -/
def Reply.ok (results : List ResultByte) : Reply :=
  { status := .ok, results := results }

/-- Hand over the RESPONSE to a request, in the session of the request (R164). -/
def State.answer (s : State) (r : Request) (reply : Reply) (thenReset : Bool) : State :=
  let told := s.handOver r.link r.session
    { frame := .response r.sequence reply.status (render s.draws reply.results), thenReset := thenReset }
  if hasUnnamed reply.results then { told with draws := told.draws + 1 } else told

/-- The request the engine takes next: the oldest of the queue, when none is current and outside the
image load (R18, R168, R182). -/
def State.nextRequest (s : State) : Option Request :=
  if s.loading || s.current.isSome then none else s.queue.head?

/-- Every index of the UNMASK has been taken and the outcome of every release reported, so that its response alone
is left (R70). -/
def UnmaskRun.done (u : UnmaskRun) : Bool :=
  u.presented.isNone && u.last.val < u.next

/-- The oldest request of the queue, when an UNMASK of another link is current and not done: a CANCEL may then be
taken between the releases of that UNMASK (R73, notes/assumptions/18.md). -/
def State.cancelMeanwhile (s : State) : Option Request :=
  match s.current with
  | some (.unmask u) =>
    if s.loading || u.done then none else s.queue.head?.filter fun r => r.link != u.request.link
  | _ => none

/-- The request that the engine may take as one of the operation: its next request (R168), or, for CANCEL,
one that comes between the releases of an UNMASK (R73). -/
def State.takenFor (s : State) (op : Operation) : Option Request :=
  if op = .cancel then s.nextRequest.or s.cancelMeanwhile else s.nextRequest

/-- The engine takes the next request when it names the operation; its link's rights are checked, and the
owning block serves it (R168, R170). In any other state the event does not occur. -/
def State.serve (s : State) (op : Operation) (body : Request → State → State) : State :=
  match s.takenFor op with
  | some r =>
    if Operation.ofCode r.operation = some op then
      let taken := { s with queue := s.queue.tail }
      if s.links[r.link].record.rights.has op.right then body r taken
      else taken.answer r (Reply.fail .denied) false
    else s
  | none => s

/-- A request that is answered in the step that takes it (R169). -/
def State.perform (s : State) (op : Operation) (body : List Byte → State → State × Reply) : State :=
  s.serve op fun r taken =>
    let (done, reply) := body r.operands taken
    done.answer r reply false

/-- A request that only reads (R169). -/
def State.inspect (s : State) (op : Operation) (body : List Byte → State → Reply) : State :=
  s.perform op fun operands taken => (taken, body operands taken)

end Sys2Proof.Machine
end

