-- ==== Sys2Proof/Machine/Arrivals.lean ====
section
/-! DEFINITION. External and internal arrivals (chapter 3, R133, R134). RELEASE stands in Masks.lean. An arrival is
first passed or presented to the Arrival Unit, is then in progress, and is taken whole by a later command; other
events may come between (R43, R44, R133; notes/assumptions/20.md). -/

namespace Sys2Proof.Machine

/-- The Link Controller passes the oldest EVENT frame of a source link to the Arrival Unit. The frame holds its
place in the ingress buffer until its arrival is finished (R43, R150). -/
def State.passEvent (s : State) (n : SourceLink) : State :=
  match s.waiting (sourceLink n) InFrame.isEvent with
  | some (.event number payload) =>
    { s with
      arriving :=
        s.arriving.set n
          (some { session := s.links[sourceLink n].session, event := number, payload := payload }) }
  | _ => s

/-- The arrival of an EVENT frame is finished: it is no longer in progress, and the frame is finished when its
session is still the present one of a link in UP (R43, R147, R151). -/
def State.endEvent (s : State) (n : SourceLink) (p : PassedEvent) : State :=
  let ended := { s with arriving := s.arriving.set n none }
  if s.isUp (sourceLink n) && s.links[sourceLink n].session == p.session then
    ended.finishFrame (sourceLink n) InFrame.isEvent
  else ended

/-- The external arrival in progress from a source link is taken whole; a refused one is answered NACK, in the
session of its frame (R42, R45, R46, R64). -/
def State.takeEvent (s : State) (n : SourceLink) (p : PassedEvent) (order : List TargetNo) : State :=
  let origin : Origin := { source := ⟨n.val, by omega⟩, event := p.event }
  let (taken, outcome) := s.arrive { kind := .external, origin := origin, payload := p.payload } order
  let told :=
    match outcome with
    | .refused reason =>
      taken.handOver (sourceLink n) p.session { frame := .nack reason p.event, thenReset := false }
    | .placed => taken
    | .latched => taken
  told.endEvent n p

/-- EXTERNAL_ARRIVAL: the oldest EVENT frame of the source link is passed to the Arrival Unit, or the one that is
in progress there is taken whole (R43, R45, R64). -/
def execExternalArrival (n : SourceLink) (order : List TargetNo) (s : State) :
    Host.Outcome State Fault Refusal :=
  match s.arriving[n] with
  | some p => if s.loading then .next s else .next (s.takeEvent n p order)
  | none => .next (s.passEvent n)

/-- The Fault Unit presents the first arrival of the raise queue and removes it from the queue (R133). -/
def State.presentRaised (s : State) : State :=
  match s.raised with
  | r :: rest => if s.loading then s else { s with raised := rest, presented := some r }
  | [] => s

/-- The internal arrival in progress is taken whole: from source 12 with its kind as the event number, and the
pool figure k (R42, R44, R60, R134). -/
def State.takeRaised (s : State) (r : Raised) (order : List TargetNo) : State :=
  let origin : Origin := { source := 12, event := BitVec.ofNat 8 r.event.number }
  (({ s with presented := none } : State).arrive
    { kind := .internal, origin := origin, payload := [r.payload] } order).1

/-- INTERNAL_ARRIVAL: the first arrival of the raise queue is presented, or the one that is in progress is taken
whole (R44, R60, R133, R134). -/
def execInternalArrival (order : List TargetNo) (s : State) : Host.Outcome State Fault Refusal :=
  match s.presented with
  | some r => if s.loading then .next s else .next (s.takeRaised r order)
  | none => .next s.presentRaised

end Sys2Proof.Machine
end

