-- ==== Sys2Proof/Machine/FaultRequests.lean ====
section
/-! DEFINITION. READ_FAULTS and CLEAR_FAULTS (R136, R137). -/

namespace Sys2Proof.Machine

/-- READ_FAULTS on its operands (R136, 11.5). -/
def State.readFaults (operands : List Byte) (s : State) : Reply :=
  match operands with
  | [start, count] =>
    if 7 < start.toNat ∨ count.toNat = 0 ∨ 4 < count.toNat then .fail .badValue
    else
      .ok (plain [BitVec.ofNat 8 s.faults.length, BitVec.ofNat 8 s.lostFaults] ++
        ((s.faults.zipIdx.drop start.toNat).take count.toNat).flatMap fun (r, position) => r.result position)
  | _ => .fail .badLength

/-- CLEAR_FAULTS on its operands: the oldest n records are removed, and with clear-lost yes the lost-fault
count becomes 0 (R137). -/
def State.clearFaults (operands : List Byte) (s : State) : State × Reply :=
  match operands with
  | [n, clearLost] =>
    if n.toNat = 0 ∨ 8 < n.toNat then (s, .fail .badValue)
    else
      match readYesNo clearLost with
      | some clear =>
        ({ s with
            faults := s.faults.drop n.toNat
            lostFaults := if clear then 0 else s.lostFaults },
          .ok (plain [BitVec.ofNat 8 (min n.toNat s.faults.length), BitVec.ofNat 8 s.lostFaults]))
      | none => (s, .fail .badValue)
  | _ => (s, .fail .badLength)

/-- READ_FAULTS (R136). -/
def execReadFaults (s : State) : Host.Outcome State Fault Refusal :=
  .next (s.inspect .readFaults State.readFaults)

/-- CLEAR_FAULTS (R137). -/
def execClearFaults (s : State) : Host.Outcome State Fault Refusal :=
  .next (s.perform .clearFaults State.clearFaults)

end Sys2Proof.Machine
end

