-- ==== Sys2Proof/Machine/ImageStore.lean ====
section
/-! DEFINITION. SAVE and its end (R188 to R195). The image load stands in Reset.lean. -/

namespace Sys2Proof.Machine

/-- The snapshot: the active bank, the mask map and the link records as they stand (R189). -/
def State.snapshot (s : State) : Image :=
  { table := s.activeBank
    maskMap := s.maskMap
    records := s.links.map Link.record
    timers := s.timers }

/-- The new generation and the target slot of a SAVE: the largest generation of the valid slots plus 1,
into the slot that does not hold it; with equal generations slot 1, with no valid slot generation 1
into slot 0 (R189). -/
def chooseSave (summary : Vector (Option Word) 2) : Word × ImageSlot :=
  match summary[0], summary[1] with
  | some g0, some g1 => if g0 < g1 then (g1 + 1, 0) else (g0 + 1, 1)
  | some g0, none => (g0 + 1, 1)
  | none, some g1 => (g1 + 1, 0)
  | none, none => (1, 0)

/-- A valid slot holds the last generation, so a SAVE has none to write (R188). -/
def State.generationsSpent (s : State) : Bool :=
  s.summary[0] == some Config.lastGeneration || s.summary[1] == some Config.lastGeneration

/-- SAVE starts: snapshot, generation and target slot are set, the target slot is marked not valid and its
fields erased, and the save record names the request (R169, R189, R190). -/
def State.startSave (s : State) (r : Request) : State :=
  let (generation, slot) := chooseSave s.summary
  { s with
    saving := some { snapshot := s.snapshot, slot := slot, generation := generation }
    summary := s.summary.set slot none
    slots := s.slots.set slot Slot.erased
    saveRecord := some { link := r.link, session := r.session, sequence := r.sequence } }

/-- SAVE, taken as a request: the tests of R188 in order, then the start; a SAVE that starts is answered
at its end (R169, R188). -/
def State.takeSave (r : Request) (s : State) : State :=
  match r.operands with
  | [] =>
    if s.frozen then s.answer r (.fail .frozen) false
    else if s.copyState = .copying then s.answer r (.fail .busy) false
    else if s.saving.isSome then s.answer r (.fail .busy) false
    else if s.generationsSpent then s.answer r (.fail .badValue) false
    else s.startSave r
  | _ => s.answer r (.fail .badLength) false

/-- The response to the SAVE of the save record, which becomes none (R169, R171). -/
def State.answerSave (s : State) (status : Status) (results : List Byte) : State :=
  match s.saveRecord with
  | some r =>
    ({ s with saveRecord := none } : State).handOver r.link r.session
      { frame := .response r.sequence status results, thenReset := false }
  | none => s

/-- The SAVE has succeeded (R191). -/
def State.saveDone (s : State) (run : SaveRun) (contents : SlotContents) (check : Word) : State :=
  let ended :=
    { s with
      saving := none
      slots := s.slots.set run.slot (Slot.written contents (some check))
      summary := s.summary.set run.slot (some run.generation) }
  (ended.answerSave .ok (BitVec.ofNat 8 run.slot :: bytesOf 4 run.generation)).notice .saveDone
    (BitVec.ofNat 16 run.slot)

/-- The SAVE has failed: the slot's check field is erased and the slot stays marked not valid (R192). -/
def State.saveFailed (s : State) (run : SaveRun) (contents : SlotContents) : State :=
  let ended :=
    { s with
      saving := none
      slots := s.slots.set run.slot (Slot.written contents none)
      summary := s.summary.set run.slot none }
  (ended.answerSave .failed []).report
    { kind := .saveFailed, link := none, target := none, index := none, event := none,
      detail := BitVec.ofNat 16 run.slot } false

/-- SAVE (R188). -/
def execSaveTables (s : State) : Host.Outcome State Fault Refusal :=
  .next (s.serve .save State.takeSave)

/-- SAVE_END: the slot was written from the snapshot; what its memory reads back is compared, first the
contents, then the check value, and the SAVE succeeds or fails (R190 to R192). -/
def execSaveEnd (contents : Option SlotContents) (check : Option Word) (s : State) :
    Host.Outcome State Fault Refusal :=
  match s.saving with
  | some run =>
    let written := run.snapshot.contents run.generation
    let readBack := contents.getD written
    if readBack = written then
      let value := slotCheck (slotBytes written)
      if check.getD value = value then .next (s.saveDone run written value)
      else .next (s.saveFailed run written)
    else .next (s.saveFailed run readBack)
  | none => .next s

end Sys2Proof.Machine
end

