-- ==== Sys2Proof/Machine/Links.lean ====
section
/-! DEFINITION. The events of the Link Controllers (chapter 8): training, HELLO, receiving, the quiet
timer, credits and sending. -/

namespace Sys2Proof.Machine

/-- TRAINING_TIMER_EXPIRY: in TRAINING another HELLO marked CALL is sent and the timer starts again
(R143). The timer runs in TRAINING alone; in any other state the event does not occur. -/
def execTrainingTimerExpiry (l : LinkNo) (s : State) : Host.Outcome State Fault Refusal :=
  if s.links[l].state = .training ∧ s.links[l].trainingTimer then
    .next (s.modLink l fun k => ({ k with trainingTimer := true } : Link).emit (.hello (linkRole l) .call))
  else .next s

/-- HELLO_IN_TRAINING: a HELLO is received on a link in TRAINING (R144). -/
def execHelloInTraining (l : LinkNo) (bytes : List Byte) (s : State) : Host.Outcome State Fault Refusal :=
  if s.links[l].state = .training then .next (s.receiveBytes l bytes) else .next s

/-- HELLO_IN_UP: a HELLO is received on a link in UP (R145). -/
def execHelloInUp (l : LinkNo) (bytes : List Byte) (s : State) : Host.Outcome State Fault Refusal :=
  if s.links[l].state = .up then .next (s.receiveBytes l bytes) else .next s

/-- FRAME_RECEIVE: a frame is received on a link in any state (R146, R149). -/
def execFrameReceive (l : LinkNo) (bytes : List Byte) (s : State) : Host.Outcome State Fault Refusal :=
  .next (s.receiveBytes l bytes)

/-- QUIET_TIMER_EXPIRY: a FAULTED link enters TRAINING when auto-retrain is yes, and else waits (R158). -/
def execQuietTimerExpiry (l : LinkNo) (s : State) : Host.Outcome State Fault Refusal :=
  if s.links[l].state = .faulted ∧ s.links[l].quietTimer then
    if s.links[l].record.autoRetrain then .next (s.modLink l (Link.enterTraining l))
    else .next (s.modLink l fun k => { k with quietTimer := false })
  else .next s

/-- CREDIT_REFRESH: 1 ms has passed without a CREDIT frame leaving; one is placed unless one waits
(R153). -/
def execCreditRefresh (l : LinkNo) (s : State) : Host.Outcome State Fault Refusal :=
  if s.isUp l then .next (s.modLink l Link.placeCredit) else .next s

/-- FRAME_TRANSMIT: the first frame of the transmit list leaves, a CREDIT frame with the grant count as
it then stands (R152, R160); after the RESPONSE to a RESET_LINK of its own link the reset is taken
(R159). -/
def execFrameTransmit (l : LinkNo) (s : State) : Host.Outcome State Fault Refusal :=
  if s.isUp l then
    match s.links[l].transmit with
    | [] => .next s
    | q :: rest =>
      let left := s.modLink l fun k => ({ k with transmit := rest } : Link).emit q.frame
      .next (if q.thenReset then left.resetLinkNow l else left)
  else .next s

end Sys2Proof.Machine
end

