-- ==== Sys2Proof/Machine/Management.lean ====
section
/-! DEFINITION. Admission of requests and the requests of the Management Engine's own chapter (chapter 9). -/

namespace Sys2Proof.Machine

/-- The queue has room for a request of the link: fewer than 8 requests, fewer than 2 of the link (R167). -/
def State.admits (s : State) (l : LinkNo) : Bool :=
  s.queue.length < Config.queueSize && (s.queue.filter fun r => r.link == l).length < Config.queuePerLink

/-- REQUEST_ADMISSION: the oldest REQUEST frame of a link joins the management queue, or the Link
Controller answers it FULL; then the frame is finished (R150, R151, R167). -/
def execRequestAdmission (l : LinkNo) (s : State) : Host.Outcome State Fault Refusal :=
  match s.waiting l InFrame.isRequest with
  | some (.request sequence operation operands) =>
    let taken :=
      if s.admits l then
        { s with
          queue := s.queue ++
            [{ link := l, session := s.links[l].session, sequence := sequence, operation := operation,
               operands := operands }] }
      else s.post l (.response sequence .full [])
    .next (taken.finishFrame l InFrame.isRequest)
  | _ => .next s

/-! ## READ_STATUS (R172) -/

/-- The results of READ_STATUS (11.5). -/
def State.statusResult (s : State) : List ResultByte :=
  plain [Config.partCode, Config.revisionCode] ++ [s.statusFlags] ++
    plain (bytesOf 2 (BitVec.ofNat 16 s.freeCount) ++
      [BitVec.ofNat 8 s.faults.length, BitVec.ofNat 8 s.lostFaults] ++
      (match s.loaded with
        | some im => BitVec.ofNat 8 im.slot :: bytesOf 4 im.generation
        | none => (0xFF : Byte) :: bytesOf 4 (0 : Word)))

/-- READ_STATUS on its operands (R172). -/
def State.readStatus (operands : List Byte) (s : State) : Reply :=
  match operands with
  | [] => .ok s.statusResult
  | _ => .fail .badLength

/-! ## READ_LINK and SET_LINK (R173, R174) -/

/-- The results of READ_LINK (11.5). -/
def State.linkResult (s : State) (l : LinkNo) : List ResultByte :=
  plain ([BitVec.ofNat 8 l, s.links[l].state.code, BitVec.ofNat 8 s.links[l].errors, s.links[l].grant] ++
    s.linkRecordBytes l)

/-- READ_LINK on its operands (R173). -/
def State.readLink (operands : List Byte) (s : State) : Reply :=
  match operands with
  | [link] =>
    match inRange 16 link.toNat with
    | some l => .ok (s.linkResult l)
    | none => .fail .badIndex
  | _ => .fail .badLength

/-- Write the link record of a link: every field the link has, at once (R174). -/
def State.writeLink (s : State) (l : LinkNo) (record : LinkRecord) (timer : Option TimerRecord) : State :=
  let written := s.modLink l fun k => { k with record := record }
  match linkTarget l, timer with
  | some t, some x => { written with timers := written.timers.set t x }
  | _, _ => written

/-- SET_LINK on its operands; for links 0 to 11 the last three are not examined and not stored (R174,
R200). -/
def State.setLink (operands : List Byte) (s : State) : State × Reply :=
  match operands with
  | [link, rights, limit, auto, timeout, retries, hold] =>
    if s.frozen then (s, .fail .frozen)
    else
      match inRange 16 link.toNat with
      | none => (s, .fail .badIndex)
      | some l =>
        let timer := TimerRecord.ofCode (timeout ++ retries ++ hold)
        match LinkRecord.ofCode (rights ++ limit ++ auto) with
        | none => (s, .fail .badValue)
        | some record =>
          if (linkTarget l).isSome && timer.isNone then (s, .fail .badValue)
          else
            let written := s.writeLink l record timer
            (written, .ok (plain (BitVec.ofNat 8 l :: written.linkRecordBytes l)))
  | _ => (s, .fail .badLength)

/-! ## READ_TARGET (R176) -/

/-- The results of READ_TARGET with part STATE (11.5). -/
def State.targetResult (s : State) (t : TargetNo) : List ResultByte :=
  let g := s.targets[t]
  let void := match g.offer.bind fun o => s.recordAt o.slot with
    | some r => (r.offer.map OfferMark.void).getD false
    | none => false
  plain [BitVec.ofNat 8 t, g.state.code, BitVec.ofNat 8 g.threshold, BitVec.ofNat 8 g.wakeLevel,
      g.tagCounter] ++
    [offerByte g.offer.isSome void g.retriesLeft] ++
    plain ((g.offer.map Offer.tag).getD 0 ::
      (bytesOf 2 (BitVec.ofNat 16 ((g.offer.map fun o => o.slot.val).getD 0)) ++
        BitVec.ofNat 8 g.stack.length ::
        (List.finRange 8).flatMap fun l => bytesOf 2 (BitVec.ofNat 16 (s.levelList t l).length)))

/-- The results of READ_TARGET with a half of the stack: depth, and the entries the stack holds at four
positions from the bottom (11.5). -/
def State.stackResult (s : State) (t : TargetNo) (start : Nat) : List ResultByte :=
  let fromBottom := s.targets[t].stack.reverse.zipIdx
  plain [BitVec.ofNat 8 t, BitVec.ofNat 8 s.targets[t].stack.length] ++
    ((fromBottom.drop start).take 4).flatMap fun (e, position) => e.result position

/-- READ_TARGET on its operands (R176). -/
def State.readTarget (operands : List Byte) (s : State) : Reply :=
  match operands with
  | [target, part] =>
    match inRange 4 target.toNat with
    | none => .fail .badIndex
    | some t =>
      match Part.ofCode part with
      | some .state => .ok (s.targetResult t)
      | some .stackLow => .ok (s.stackResult t 0)
      | some .stackHigh => .ok (s.stackResult t 4)
      | none => .fail .badValue
  | _ => .fail .badLength

/-! ## RESET_LINK, RESTART and FREEZE (R177 to R181) -/

/-- RESET_LINK, taken as a request: another link is reset at once; the requesting link is reset once the
RESPONSE has left it (R159, R177). -/
def State.resetLink (r : Request) (s : State) : State :=
  match r.operands with
  | [link] =>
    match inRange 16 link.toNat with
    | none => s.answer r (.fail .badIndex) false
    | some l =>
      let reply := Reply.ok (plain [link, s.links[l].state.code])
      if l = r.link then s.answer r reply true else (s.resetLinkNow l).answer r reply false
  | _ => s.answer r (.fail .badLength) false

/-- A target after RESTART: no offer, no timer, an empty stack, threshold 8, READY when its link is UP and
OFFLINE when it is not; tag counter and wake level are kept (R93, R126). -/
def Target.restart (up : Bool) (g : Target) : Target :=
  { Target.enter (if up then .ready else .offline) g with stack := [], threshold := 8 }

/-- VOID with the tag of the current offer goes to a target in OFFERED (R126). -/
def State.voidOffer (s : State) (t : TargetNo) : State :=
  if s.targets[t].state = .offered then
    match s.targets[t].offer with
    | some o => s.post (targetLink t) (.void o.tag)
    | none => s
  else s

/-- One handling of RESTART, whole: every record is freed, offers are voided, stacks emptied and targets put in
READY or OFFLINE; every latch is removed; every pointer is set to none (R40, R63, R75, R93, R126). The pool is
empty, so a re-examination at entry into READY offers nothing. -/
def State.restartPart (s : State) : RestartPart → State
  | .delivery =>
    { (List.finRange 4).foldl State.voidOffer s with
      records := []
      targets := Vector.ofFn fun t : TargetNo => Target.restart (s.isUp (targetLink t)) s.targets[t] }
  | .latches => { s with latches := Vector.replicate 512 none }
  | .pointers => { s with pointers := Vector.replicate 512 none }

/-- The handling that is done next of those that are left, in an order that is free (R178). -/
def RestartRun.choose (run : RestartRun) (draw : Nat) : Option RestartPart :=
  match run.left with
  | [p] => some p
  | left => left[Config.nextHandling draw % left.length]?

/-- One handling more of a RESTART is done; when it was the last, the request is answered in the same step and is no
longer current (R178; that no event comes between that handling and the response is notes/assumptions/9.md). -/
def State.restartNext (s : State) (run : RestartRun) : State :=
  match run.choose s.draws with
  | some p =>
    let handled := { s.restartPart p with draws := s.draws + 1 }
    let left := run.left.erase p
    if left = [] then ({ handled with current := none } : State).answer run.request (.ok []) false
    else { handled with current := some (.restart { run with left := left }) }
  | none => s

/-- RESTART, taken as a request: the queue is emptied, and it becomes current with its three handlings to be
done (R178, R179). -/
def State.startRestart (r : Request) (s : State) : State :=
  match r.operands with
  | [] =>
    { s with
      queue := []
      current := some (.restart { request := r, left := [.delivery, .latches, .pointers] }) }
  | _ => s.answer r (.fail .badLength) false

/-- FREEZE on its operands (R180). -/
def State.freeze (operands : List Byte) (s : State) : State × Reply :=
  match operands with
  | [] =>
    if s.copyState = .copying || s.saving.isSome then (s, .fail .busy)
    else ({ s with frozen := true }, .ok [])
  | _ => (s, .fail .badLength)

/-! ## The commands -/

/-- READ_STATUS (R172). -/
def execReadStatus (s : State) : Host.Outcome State Fault Refusal :=
  .next (s.inspect .readStatus State.readStatus)

/-- READ_LINK (R173). -/
def execReadLink (s : State) : Host.Outcome State Fault Refusal :=
  .next (s.inspect .readLink State.readLink)

/-- SET_LINK (R174). -/
def execSetLink (s : State) : Host.Outcome State Fault Refusal :=
  .next (s.perform .setLink State.setLink)

/-- READ_TARGET (R176). -/
def execReadTarget (s : State) : Host.Outcome State Fault Refusal :=
  .next (s.inspect .readTarget State.readTarget)

/-- RESET_LINK (R177). -/
def execResetLink (s : State) : Host.Outcome State Fault Refusal :=
  .next (s.serve .resetLink State.resetLink)

/-- RESTART: the engine takes a RESTART request, or the next handling of the one that is current is done (R178,
R179). -/
def execRestart (s : State) : Host.Outcome State Fault Refusal :=
  match s.current with
  | some (.restart run) => if s.loading then .next s else .next (s.restartNext run)
  | _ => .next (s.serve .restart State.startRestart)

/-- FREEZE (R180). -/
def execFreeze (s : State) : Host.Outcome State Fault Refusal :=
  .next (s.perform .freeze State.freeze)

/-- UNKNOWN_OP: the engine takes a request whose code names no operation, and answers UNKNOWN_OP (R168). -/
def execUnknownOp (s : State) : Host.Outcome State Fault Refusal :=
  match s.nextRequest with
  | some r =>
    if (Operation.ofCode r.operation).isNone then
      .next (({ s with queue := s.queue.tail } : State).answer r (.fail .unknownOp) false)
    else .next s
  | none => .next s

end Sys2Proof.Machine
end

