-- ==== Sys2Proof/Machine/Masks.lean ====
section
/-! DEFINITION. The mask requests and the release of latches (chapter 4, R61). -/

namespace Sys2Proof.Machine

/-! ## MASK (R68, R69) -/

/-- The Mask Unit takes the next index of a MASK: its flag is set, and counted when it was clear. When it was
the last of the range, the request is answered in the same step and is no longer current (R68, R69, R169; that no
event comes between that flag and the response is notes/assumptions/9.md). -/
def State.maskNext (s : State) (m : MaskRun) : State :=
  let flagged : State := { s with maskMap := s.maskMap.set m.next true }
  let newly := m.newly + if s.maskMap[m.next] then 0 else 1
  if h : m.next < m.last then
    let next : Index := ⟨m.next.val + 1, Nat.lt_of_le_of_lt h m.last.isLt⟩
    { flagged with current := some (.mask { m with next := next, newly := newly }) }
  else
    ({ flagged with current := none } : State).answer m.request
      (.ok (plain (bytesOf 2 (BitVec.ofNat 16 newly)))) false

/-- MASK, taken as a request: it is examined, and becomes current when its range is good (R68). -/
def State.startMask (r : Request) (s : State) : State :=
  match r.operands with
  | [a, b, c, d] =>
    match readRange (a ++ b) (c ++ d) with
    | some (first, last) =>
      { s with current := some (.mask { request := r, next := first, last := last, newly := 0 }) }
    | none => s.answer r (.fail .badIndex) false
  | _ => s.answer r (.fail .badLength) false

/-! ## READ_MASK (R74) -/

/-- READ_MASK on its operands (R74, 11.5). -/
def State.readMask (operands : List Byte) (s : State) : Reply :=
  match operands with
  | [hi, lo, count] =>
    let first := (hi ++ lo : Half).toNat
    if count.toNat = 0 ∨ 64 < count.toNat then .fail .badValue
    else if 512 < first + count.toNat then .fail .badIndex
    else
      let shown := ((List.finRange 512).drop first).take count.toNat
      .ok (plain ([hi, lo, count] ++
        packBits (shown.flatMap fun i => [s.maskMap[i], s.latches[i].isSome])))
  | _ => .fail .badLength

/-! ## UNMASK and RELEASE (R61, R70 to R73) -/

/-- The Mask Unit takes one index: it clears the flag, and removes a latch and presents its release
(R70). -/
def State.takeIndex (s : State) (u : UnmaskRun) (i : Index) : State × UnmaskRun :=
  ({ s with maskMap := s.maskMap.set i false, latches := s.latches.set i none },
    { u with
      next := i.val + 1
      cleared := u.cleared + (if s.maskMap[i] then 1 else 0)
      presented := s.latches[i].map fun o => { index := i, origin := o } })

/-- The three counts of the UNMASK response (11.5). -/
def UnmaskRun.result (u : UnmaskRun) : List ResultByte :=
  plain (bytesOf 2 (BitVec.ofNat 16 u.cleared) ++ bytesOf 2 (BitVec.ofNat 16 u.placed) ++
    bytesOf 2 (BitVec.ofNat 16 u.refused))

/-- The UNMASK is answered and is no longer current (R70, R169). -/
def State.answerUnmask (s : State) (u : UnmaskRun) : State :=
  ({ s with current := none } : State).answer u.request (.ok u.result) false

/-- The UNMASK goes on by at most `pace` acts: each takes one index, in increasing order, or, when the UNMASK is done,
hands the response over; it stops at a release until its outcome is reported (R70). The internal arrival of a
refusal may so be taken before the next index or the response, or after it (R72, section 4.8, the paragraph after
the table); which, the commands say (notes/assumptions/4.md). -/
def State.unmaskOn (s : State) (u : UnmaskRun) : Nat → State
  | 0 => { s with current := some (.unmask u) }
  | pace + 1 =>
    if u.done then s.answerUnmask u
    else
      match u.presented, inRange 512 u.next with
      | none, some i => (s.takeIndex u i).1.unmaskOn (s.takeIndex u i).2 pace
      | _, _ => { s with current := some (.unmask u) }

/-- UNMASK, taken as a request (R70). -/
def State.startUnmask (pace : Nat) (r : Request) (s : State) : State :=
  match r.operands with
  | [a, b, c, d] =>
    match readRange (a ++ b) (c ++ d) with
    | some (first, last) =>
      s.unmaskOn
        { request := r, next := first.val, last := last, cleared := 0, placed := 0, refused := 0,
          presented := none } pace
    | none => s.answer r (.fail .badIndex) false
  | _ => s.answer r (.fail .badLength) false

/-- The outcome of a release is reported to the Mask Unit, which counts it (R61, R70). -/
def UnmaskRun.count (u : UnmaskRun) : ArrivalOutcome → UnmaskRun
  | .placed => { u with presented := none, placed := u.placed + 1 }
  | .refused _ => { u with presented := none, refused := u.refused + 1 }
  | .latched => { u with presented := none }

/-- MASK: the engine takes a MASK request, or the Mask Unit takes the next index of the one that is current
(R68, R69). -/
def execMaskRange (s : State) : Host.Outcome State Fault Refusal :=
  match s.current with
  | some (.mask m) => if s.loading then .next s else .next (s.maskNext m)
  | _ => .next (s.serve .mask State.startMask)

/-- UNMASK: the engine takes an UNMASK request, or the Mask Unit goes on with the one that is current and
waits for no release (R70, R73). -/
def execUnmaskRange (pace : Nat) (s : State) : Host.Outcome State Fault Refusal :=
  match s.current with
  | some (.unmask u) => if u.presented.isSome || s.loading then .next s else .next (s.unmaskOn u pace)
  | _ => .next (s.serve .unmask (State.startUnmask pace))

/-- RELEASE: the release that the Mask Unit presents takes the steps of an arrival from the mask step on,
with the entry of the index lookup and the pool figure k plus 8; its outcome is counted, and the
UNMASK goes on by `pace` acts, with a pace of 0 by none, so that other events may come before its next index or its
response (R6, R42, R61, R70 to R72; notes/assumptions/4.md). -/
def execRelease (order : List TargetNo) (pace : Nat) (s : State) : Host.Outcome State Fault Refusal :=
  match s.current with
  | some (.unmask u) =>
    match u.presented with
    | some latch =>
      if s.loading then .next s
      else
        let (taken, outcome) := s.arriveAt { kind := .release, origin := latch.origin, payload := [] } order
          latch.index s.activeBank.entries[latch.index]
        .next (taken.unmaskOn (u.count outcome) pace)
    | none => .next s
  | _ => .next s

/-- READ_MASK (R74). -/
def execReadMask (s : State) : Host.Outcome State Fault Refusal :=
  .next (s.inspect .readMask State.readMask)

end Sys2Proof.Machine
end

