-- ==== Sys2Proof/Machine/PoolRequests.lean ====
section
/-! DEFINITION. CANCEL and READ_PENDING (R36 to R38, R201). -/

namespace Sys2Proof.Machine

/-- The record belongs to the pair that CANCEL names. -/
def Record.ofPair (r : Record) (t : TargetNo) (i : Index) : Bool :=
  r.target == t && r.index == i

/-- CANCEL counts the record: it frees it, not being under offer, or newly marks it void (R36). -/
def Record.isCancelled (r : Record) (t : TargetNo) (i : Index) : Bool :=
  r.ofPair t i && (match r.offer with | none => true | some m => !m.void)

/-- The pair's records not under offer are freed; one under offer is void and stays (R36). -/
def cancelRecords (t : TargetNo) (i : Index) (rs : List Record) : List Record :=
  (rs.filter fun r => !(r.ofPair t i && r.offer.isNone)).map fun r =>
    if r.ofPair t i then { r with offer := r.offer.map fun m => { m with void := true } } else r

/-- CANCEL on its operands (R36). -/
def State.cancel (operands : List Byte) (s : State) : State × Reply :=
  match operands with
  | [target, hi, lo] =>
    match inRange 4 target.toNat, inRange 512 (hi ++ lo : Half).toNat with
    | some t, some i =>
      let affected := (s.records.filter fun r => r.isCancelled t i).length
      if affected = 0 then (s, .fail .notPending)
      else
        (s.setRecords (cancelRecords t i s.records),
          .ok (plain (bytesOf 2 (BitVec.ofNat 16 affected))))
    | _, _ => (s, .fail .badIndex)
  | _ => (s, .fail .badLength)

/-- The results of READ_PENDING (11.5, R38, R201). -/
def State.pendingResult (s : State) (t : TargetNo) (l : Level) (start count : Nat) : List ResultByte :=
  let list := s.levelList t l
  let carried := carriedRecords count start (Config.resultBytes - 5) (list.drop start)
  plain ([BitVec.ofNat 8 t, BitVec.ofNat 8 l] ++ bytesOf 2 (BitVec.ofNat 16 list.length) ++
      [BitVec.ofNat 8 carried.length]) ++
    carried.flatten

/-- READ_PENDING on its operands (R38). -/
def State.readPending (operands : List Byte) (s : State) : Reply :=
  match operands with
  | [target, level, hi, lo, count] =>
    match inRange 4 target.toNat, inRange 8 level.toNat with
    | some t, some l =>
      let start := (hi ++ lo : Half).toNat
      if 383 < start ∨ count.toNat = 0 ∨ 4 < count.toNat then .fail .badValue
      else .ok (s.pendingResult t l start count.toNat)
    | _, _ => .fail .badIndex
  | _ => .fail .badLength

/-- CANCEL (R36). -/
def execCancel (s : State) : Host.Outcome State Fault Refusal :=
  .next (s.perform .cancel State.cancel)

/-- READ_PENDING (R38). -/
def execReadPending (s : State) : Host.Outcome State Fault Refusal :=
  .next (s.inspect .readPending State.readPending)

end Sys2Proof.Machine
end

