-- ==== Sys2Proof/Machine/Reset.lean ====
section
/-! DEFINITION. FULL_RESET and IMAGE_LOAD (R18 to R20, R39, R63, R76, R94, R127, R139, R162, R182, R185 to
R187, R195). -/

namespace Sys2Proof.Machine

/-- The slots after a full reset: a SAVE in progress is ended with its target slot erased or written in
part, its check field not written; the other slot is untouched (R195). The model leaves every field of
the target slot erased, as the SAVE's start did (notes/assumptions/6.md). -/
def State.slotsAfterReset (s : State) : Vector Slot 2 :=
  match s.saving with
  | some run => s.slots.set run.slot Slot.erased
  | none => s.slots

/-- FULL_RESET: every link is DOWN, the delivery, fault, mask, pointer and management state is cleared, arrivals
in progress are lost, a copy phase and a SAVE end, and the image load begins (R19, R39, R63, R76, R94, R127, R139, R162, R182,
R195). Slots keep their contents; banks, link records, slot summary and loaded image stand until the
load sets them. -/
def execFullReset (s : State) : Host.Outcome State Fault Refusal :=
  .next
    { s with
      loading := true
      active := .a
      copyState := .idle
      frozen := false
      records := []
      pointers := Vector.replicate 512 none
      arriving := Vector.replicate 12 none
      maskMap := Vector.replicate 512 false
      latches := Vector.replicate 512 none
      targets := Vector.replicate 4 Target.reset
      faults := []
      lostFaults := 0
      raised := []
      presented := none
      links := s.links.map fun k => Link.reset k.record k.session k.sent
      queue := []
      current := none
      saveRecord := none
      slots := s.slotsAfterReset
      saving := none }

/-- The chosen slot: of two valid slots the one with the larger generation, slot 0 when the generations are
equal; else the valid one (R185). -/
def chooseImage (zero one : Option (Word × Image)) : Option (ImageSlot × Word × Image) :=
  match zero, one with
  | some (g0, im0), some (g1, im1) => if g0 < g1 then some (1, g1, im1) else some (0, g0, im0)
  | some (g0, im0), none => some (0, g0, im0)
  | none, some (g1, im1) => some (1, g1, im1)
  | none, none => none

/-- The load hands an image to the blocks: its table to both banks, its mask map and its link records,
and every link enters TRAINING (R186). -/
def State.loadImage (s : State) (im : Image) : State :=
  { s with
    loading := false
    bankA := im.table
    bankB := im.table
    active := .a
    maskMap := im.maskMap
    timers := im.timers
    links := Vector.ofFn fun l => Link.enterTraining l { s.links[l] with record := im.records[l] } }

/-- The NO_IMAGE report (R129, R187). -/
def noImageFault : FaultRecord :=
  { kind := .noImage, link := none, target := none, index := none, event := none, detail := 0 }

/-- IMAGE_LOAD: both slots are tested, an image is chosen, slot summary and loaded image are set, and the
image or the start values are loaded; without an image NO_IMAGE is reported (R139, R185 to R187). The
load ends once after a full reset; in any other state the event does not occur. -/
def execImageLoad (s : State) : Host.Outcome State Fault Refusal :=
  if s.loading then
    let zero := s.slots[0].image
    let one := s.slots[1].image
    let tested := { s with summary := #v[zero.map Prod.fst, one.map Prod.fst] }
    match chooseImage zero one with
    | some (slot, generation, im) =>
      .next { tested.loadImage im with loaded := some { slot := slot, generation := generation } }
    | none =>
      .next ({ tested.loadImage Image.start with loaded := none }.report noImageFault false)
  else .next s

end Sys2Proof.Machine
end

