-- ==== Sys2Proof/Machine/TableStore.lean ====
section
/-! DEFINITION. The end of the copy phase and the table requests (chapter 1). -/

namespace Sys2Proof.Machine

/-- COPY_PHASE_END: the staging bank equals the active bank, the copy state is IDLE, and BANK_READY is
reported with the bank now active (R14, R15). R14 leaves open when within the copy phase, and in what order, the
entries and windows of the staging bank are rewritten: that it keeps the old table until this end, and then takes
all of the new one at once, is the model's choice (DESIGN CHOICE, notes/assumptions/21.md). -/
def execCopyPhaseEnd (s : State) : Host.Outcome State Fault Refusal :=
  if s.copyState = .copying then
    let copied := { s.setBank s.active.other s.activeBank with copyState := .idle }
    .next (copied.notice .bankReady (s.active.code.setWidth 16))
  else .next s

/-- The entries of a bank after writing consecutive ones from an index on. -/
def writeEntries (b : Vector Entry 512) : Nat → List Entry → Vector Entry 512
  | _, [] => b
  | i, e :: rest => writeEntries (if h : i < 512 then b.set i e else b) (i + 1) rest

/-- Every code read as a legal entry, or `none` when one is bad (R3, R8). -/
def legalEntries : List Word → Option (List Entry)
  | [] => some []
  | c :: rest =>
    match Entry.ofCode c, legalEntries rest with
    | some e, some es => some (e :: es)
    | _, _ => none

/-- The freeze and copy tests of a request that writes the table, in the order of R7. -/
def State.tableBarred (s : State) : Option Status :=
  if s.frozen then some .frozen else if s.copyState = .copying then some .busy else none

/-- The bank whose name a table response carries (11.5). -/
def bankResult (n : BankName) : List ResultByte :=
  plain [n.code]

/-- WRITE_ENTRY on its operands (R7, R8). -/
def State.writeEntry (operands : List Byte) (s : State) : State × Reply :=
  match operands with
  | hi :: lo :: rest =>
    match readEntryCodes rest with
    | some codes =>
      if codes.length = 0 ∨ 4 < codes.length then (s, .fail .badLength)
      else
        match s.tableBarred with
        | some status => (s, .fail status)
        | none =>
          let first := (hi ++ lo : Half).toNat
          if 512 < first + codes.length then (s, .fail .badIndex)
          else
            match legalEntries codes with
            | some es =>
              let name := s.active.other
              let bank := s.stagingBank
              (s.setBank name { bank with entries := writeEntries bank.entries first es },
                .ok (bankResult name))
            | none => (s, .fail .badValue)
    | none => (s, .fail .badLength)
  | _ => (s, .fail .badLength)

/-- WRITE_WINDOW on its operands (R7, R9). -/
def State.writeWindow (operands : List Byte) (s : State) : State × Reply :=
  match operands with
  | [source, hi, lo] =>
    match s.tableBarred with
    | some status => (s, .fail status)
    | none =>
      match inRange 13 source.toNat with
      | some n =>
        match Window.ofCode (hi ++ lo) with
        | some w =>
          let name := s.active.other
          let bank := s.stagingBank
          (s.setBank name { bank with windows := bank.windows.set n w }, .ok (bankResult name))
        | none => (s, .fail .badValue)
      | none => (s, .fail .badIndex)
  | _ => (s, .fail .badLength)

/-- The bank that a selector names, or neither role (R10). -/
def State.selected (s : State) : Option Selector → Option BankName
  | some .active => some s.active
  | some .staging => some s.active.other
  | none => none

/-- The staging bank is selected while the copy phase rewrites it (R7, R10). -/
def State.stagingBusy (s : State) (selector : Option Selector) : Bool :=
  selector == some .staging && s.copyState == .copying

/-- The consecutive entries from an index on, in increasing index order. -/
def Bank.entriesFrom (b : Bank) (first count : Nat) : List Entry :=
  (b.entries.toList.drop first).take count

/-- READ_ENTRY on its operands (R7, R10). -/
def State.readEntry (operands : List Byte) (s : State) : Reply :=
  match operands with
  | [selectorByte, hi, lo, count] =>
    let selector := Selector.ofCode selectorByte
    let first := (hi ++ lo : Half).toNat
    if s.stagingBusy selector then .fail .busy
    else if 512 ≤ first ∨ 512 < first + count.toNat then .fail .badIndex
    else if count.toNat = 0 ∨ 4 < count.toNat then .fail .badValue
    else
      match s.selected selector with
      | some name =>
        .ok (bankResult name ++
          plain (((s.bank name).entriesFrom first count.toNat).flatMap fun e => bytesOf 4 e.code))
      | none => .fail .badValue
  | _ => .fail .badLength

/-- READ_WINDOW on its operands (R7, R11). -/
def State.readWindow (operands : List Byte) (s : State) : Reply :=
  match operands with
  | [selectorByte, source] =>
    let selector := Selector.ofCode selectorByte
    if s.stagingBusy selector then .fail .busy
    else
      match inRange 13 source.toNat with
      | some n =>
        match s.selected selector with
        | some name =>
          .ok (bankResult name ++ plain (source :: bytesOf 2 (s.bank name).windows[n].code))
        | none => .fail .badValue
      | none => .fail .badIndex
  | _ => .fail .badLength

/-- COMMIT on its operands: the roles of the banks are exchanged, and with COPY the copy phase begins
(R7, R12 to R14, R16). -/
def State.commit (operands : List Byte) (s : State) : State × Reply :=
  match operands with
  | [choiceByte] =>
    match s.tableBarred with
    | some status => (s, .fail status)
    | none =>
      if s.saving.isSome then (s, .fail .busy)
      else
        match Choice.ofCode choiceByte with
        | some .copy =>
          ({ s with active := s.active.other, copyState := .copying }, .ok (bankResult s.active.other))
        | some .keep => ({ s with active := s.active.other }, .ok (bankResult s.active.other))
        | none => (s, .fail .badValue)
  | _ => (s, .fail .badLength)

/-- WRITE_ENTRY (R8). -/
def execWriteEntry (s : State) : Host.Outcome State Fault Refusal :=
  .next (s.perform .writeEntry State.writeEntry)

/-- WRITE_WINDOW (R9). -/
def execWriteWindow (s : State) : Host.Outcome State Fault Refusal :=
  .next (s.perform .writeWindow State.writeWindow)

/-- READ_ENTRY (R10). -/
def execReadEntry (s : State) : Host.Outcome State Fault Refusal :=
  .next (s.inspect .readEntry State.readEntry)

/-- READ_WINDOW (R11). -/
def execReadWindow (s : State) : Host.Outcome State Fault Refusal :=
  .next (s.inspect .readWindow State.readWindow)

/-- COMMIT (R13). -/
def execCommit (s : State) : Host.Outcome State Fault Refusal :=
  .next (s.perform .commit State.commit)

end Sys2Proof.Machine
end

