-- ==== Sys2Proof/Machine/Targets.lean ====
section
/-! DEFINITION. The target frames and the timers of the Delivery Controller (chapters 5 and 6). A target
frame is the one in progress, the oldest of its kinds in its link's buffer; when that frame is of another
kind, or the timer does not run in the state named, the event does not occur. -/

namespace Sys2Proof.Machine

/-- CLAIM (R103). -/
def execClaimFrame (t : TargetNo) (s : State) : Host.Outcome State Fault Refusal :=
  match s.targetFrame t with
  | some (.claim tag) => .next ((s.takeClaim t tag).finishTargetFrame t)
  | _ => .next s

/-- REFUSE (R107). -/
def execRefuseFrame (t : TargetNo) (s : State) : Host.Outcome State Fault Refusal :=
  match s.targetFrame t with
  | some (.refuse tag) => .next ((s.takeRefuse t tag).finishTargetFrame t)
  | _ => .next s

/-- DONE (R82). -/
def execDoneFrame (t : TargetNo) (s : State) : Host.Outcome State Fault Refusal :=
  match s.targetFrame t with
  | some (.done tag) => .next ((s.takeDone t tag).finishTargetFrame t)
  | _ => .next s

/-- READY_FRAME (R110). -/
def execReadyFrame (t : TargetNo) (s : State) : Host.Outcome State Fault Refusal :=
  match s.targetFrame t with
  | some .ready => .next ((s.takeReady t).finishTargetFrame t)
  | _ => .next s

/-- LEVEL (R87). -/
def execLevelFrame (t : TargetNo) (s : State) : Host.Outcome State Fault Refusal :=
  match s.targetFrame t with
  | some (.level value) => .next ((s.takeLevel t value).finishTargetFrame t)
  | _ => .next s

/-- SLEEP (R114). -/
def execSleepFrame (t : TargetNo) (s : State) : Host.Outcome State Fault Refusal :=
  match s.targetFrame t with
  | some (.sleep value) => .next ((s.takeSleep t value).finishTargetFrame t)
  | _ => .next s

/-- TARGET_LOST of a target, with the entry index and the detail of its cause (R112, R117). -/
def targetLost (t : TargetNo) (i : Option Index) (detail : Half) : FaultRecord :=
  linkFault .targetLost (targetLink t) i detail

/-- The retries left when a retransmission may be made: one fewer than now. -/
def Target.retry (g : Target) : Option (Fin 8) :=
  match g.retriesLeft with
  | some r => if r = 0 then none else some (r - 1)
  | none => none

/-- A retransmission: one retry fewer, and the claim timer restarts with the claim timeout (R111, R117). -/
def State.resend (s : State) (t : TargetNo) (retries : Fin 8) (f : OutFrame) : State :=
  (s.modTarget t fun g =>
      { g with claimTimer := some s.timers[t].claimTimeout, retriesLeft := some retries }).post
    (targetLink t) f

/-- CLAIM_TIMER_EXPIRY: in OFFERED a void record is freed, or the OFFER is sent again with one retry fewer,
or the offer is lost and the target is LOST (R111, R112). -/
def execClaimTimerExpiry (t : TargetNo) (s : State) : Host.Outcome State Fault Refusal :=
  if s.targets[t].claimTimer.isSome then
    match s.currentOffer t with
    | some (o, r, m) =>
      if m.void then .next ((s.freeRecord r.slot).enterReady t)
      else
        match s.targets[t].retry with
        | some retries => .next (s.resend t retries (.offer (r.offerFrame o.tag)))
        | none =>
          .next (((s.withdraw r).modTarget t (Target.enter .lost)).report
            (targetLost t (some r.index) (o.tag.setWidth 16)) false)
    | none => .next s
  else .next s

/-- CLAIM_TIMER_EXPIRY_WAKING: in WAKING the same WAKE is sent again with one retry fewer, or the target is
LOST (R117). -/
def execClaimTimerExpiryWaking (t : TargetNo) (s : State) : Host.Outcome State Fault Refusal :=
  if s.targets[t].state = .waking ∧ s.targets[t].claimTimer.isSome then
    match s.targets[t].retry, s.targets[t].wakeSent with
    | some retries, some level => .next (s.resend t retries (.wake level))
    | _, _ =>
      .next ((s.modTarget t (Target.enter .lost)).report
        (targetLost t none (BitVec.ofNat 16 (256 + s.targets[t].wakeLevel.val))) false)
  else .next s

/-- HOLD_TIMER_EXPIRY: in HELD the target enters READY (R109). -/
def execHoldTimerExpiry (t : TargetNo) (s : State) : Host.Outcome State Fault Refusal :=
  if s.targets[t].state = .held ∧ s.targets[t].holdTimer.isSome then .next (s.enterReady t)
  else .next s

end Sys2Proof.Machine
end

