-- ==== Sys2Proof/Machine/Dispatch.lean ====
section
/-! DEFINITION. One arm for each command: the meaning it calls. -/

namespace Sys2Proof.Machine

def exec (i : Instr) (s : State) : Host.Outcome State Fault Refusal :=
  match i with
  | .fullReset => Sys2Proof.Machine.execFullReset s
  | .imageLoad => Sys2Proof.Machine.execImageLoad s
  | .trainingTimerExpiry link => Sys2Proof.Machine.execTrainingTimerExpiry link s
  | .helloInTraining link bytes => Sys2Proof.Machine.execHelloInTraining link bytes s
  | .helloInUp link bytes => Sys2Proof.Machine.execHelloInUp link bytes s
  | .frameReceive link bytes => Sys2Proof.Machine.execFrameReceive link bytes s
  | .quietTimerExpiry link => Sys2Proof.Machine.execQuietTimerExpiry link s
  | .creditRefresh link => Sys2Proof.Machine.execCreditRefresh link s
  | .frameTransmit link => Sys2Proof.Machine.execFrameTransmit link s
  | .externalArrival source order => Sys2Proof.Machine.execExternalArrival source order s
  | .internalArrival order => Sys2Proof.Machine.execInternalArrival order s
  | .release order pace => Sys2Proof.Machine.execRelease order pace s
  | .claimFrame target => Sys2Proof.Machine.execClaimFrame target s
  | .refuseFrame target => Sys2Proof.Machine.execRefuseFrame target s
  | .doneFrame target => Sys2Proof.Machine.execDoneFrame target s
  | .readyFrame target => Sys2Proof.Machine.execReadyFrame target s
  | .levelFrame target => Sys2Proof.Machine.execLevelFrame target s
  | .sleepFrame target => Sys2Proof.Machine.execSleepFrame target s
  | .claimTimerExpiry target => Sys2Proof.Machine.execClaimTimerExpiry target s
  | .claimTimerExpiryWaking target => Sys2Proof.Machine.execClaimTimerExpiryWaking target s
  | .holdTimerExpiry target => Sys2Proof.Machine.execHoldTimerExpiry target s
  | .copyPhaseEnd => Sys2Proof.Machine.execCopyPhaseEnd s
  | .requestAdmission link => Sys2Proof.Machine.execRequestAdmission link s
  | .readStatus => Sys2Proof.Machine.execReadStatus s
  | .readLink => Sys2Proof.Machine.execReadLink s
  | .setLink => Sys2Proof.Machine.execSetLink s
  | .readTarget => Sys2Proof.Machine.execReadTarget s
  | .resetLink => Sys2Proof.Machine.execResetLink s
  | .restart => Sys2Proof.Machine.execRestart s
  | .freeze => Sys2Proof.Machine.execFreeze s
  | .writeEntry => Sys2Proof.Machine.execWriteEntry s
  | .writeWindow => Sys2Proof.Machine.execWriteWindow s
  | .readEntry => Sys2Proof.Machine.execReadEntry s
  | .readWindow => Sys2Proof.Machine.execReadWindow s
  | .commit => Sys2Proof.Machine.execCommit s
  | .cancel => Sys2Proof.Machine.execCancel s
  | .readPending => Sys2Proof.Machine.execReadPending s
  | .maskRange => Sys2Proof.Machine.execMaskRange s
  | .unmaskRange pace => Sys2Proof.Machine.execUnmaskRange pace s
  | .readMask => Sys2Proof.Machine.execReadMask s
  | .readFaults => Sys2Proof.Machine.execReadFaults s
  | .clearFaults => Sys2Proof.Machine.execClearFaults s
  | .saveTables => Sys2Proof.Machine.execSaveTables s
  | .saveEnd contents check => Sys2Proof.Machine.execSaveEnd contents check s
  | .unknownOp => Sys2Proof.Machine.execUnknownOp s

end Sys2Proof.Machine
end

