-- ==== Sys2Proof/Safety.lean ====
section
/-! DEFINITION. What counts as a sound state of the router, in the terms the statements use: for each block
the invariant that its rules give, and the words for a request that is served and answered. -/

namespace Sys2Proof.Machine

/-! ## Invariants of the blocks -/

/-- The Fault Unit holds at most 8 records, counts at most 255 lost faults, its raise queue holds at most one
arrival of each kind, and no internal arrival is in progress during the image load (R128, R133, R139). -/
abbrev FaultUnitSound (s : State) : Prop :=
  s.faults.length ≤ 8 ∧ s.lostFaults ≤ 255 ∧ (s.raised.map Raised.event).Nodup ∧
    (s.loading → s.presented = none)

/-- Every entry and window of a bank passes the tests of R3 and R4. -/
abbrev BankLegal (b : Bank) : Prop :=
  (∀ i : Index, b.entries[i].legal) ∧ ∀ n : SourceNo, b.windows[n].legal

/-- Every entry, window and link record field is legal at all times (R3, R4, R161). -/
abbrev TablesSound (s : State) : Prop :=
  BankLegal s.bankA ∧ BankLegal s.bankB ∧ (∀ l : LinkNo, s.links[l].record.legal) ∧
    ∀ t : TargetNo, s.timers[t].legal

/-- A current request has something left to do, and its counts are those of the indexes taken: an UNMASK has an index
to take, the outcome of a release or its response left, and a RESTART no handling left twice (R68 to R70, R178). That
a MASK has an index to take and a RESTART a handling left, so that neither is current with its response alone left, is
the model's choice (notes/assumptions/9.md, with 4 and 19). -/
abbrev RunSound : CurrentRequest → Prop
  | .mask m => m.next ≤ m.last ∧ m.newly ≤ m.next.val
  | .unmask u =>
    u.next ≤ u.last.val + 1 ∧ u.cleared ≤ u.next ∧
      u.placed + u.refused + u.presented.toList.length ≤ u.cleared
  | .restart run => run.left ≠ [] ∧ run.left.Nodup

/-- The UNMASK that is the current request. -/
def State.unmasking (s : State) : Option UnmaskRun :=
  match s.current with
  | some (.unmask u) => some u
  | _ => none

/-- A latch is held only for an index whose mask flag is set, none is held during the image load, the flag of
a release that waits for its outcome is clear, and the current request is sound (R65, R66, R70, R76). -/
abbrev MaskSound (s : State) : Prop :=
  (∀ i : Index, s.latches[i].isSome → s.maskMap[i]) ∧
    (s.loading → (∀ i : Index, s.latches[i] = none) ∧ s.current = none) ∧
    (∀ u ∈ s.unmasking, ∀ p ∈ u.presented, s.maskMap[p.index] = false) ∧ ∀ c ∈ s.current, RunSound c

/-- The management queue holds at most 8 requests, at most 2 of any one link, and each of them belongs to
the present session of a link in UP; during the image load it is empty (R166, R171, R182). -/
abbrev QueueSound (s : State) : Prop :=
  s.queue.length ≤ 8 ∧
    (∀ l : LinkNo, (s.queue.filter fun r => r.link == l).length ≤ 2) ∧
    (s.loading = true → s.queue = []) ∧
    ∀ r ∈ s.queue, s.isUp r.link = true ∧ s.links[r.link].session = r.session

/-- No two records of the pool share a slot (R22). -/
abbrev SlotsSound (s : State) : Prop :=
  (s.records.map Record.slot).Nodup

/-- The records of a target that are under offer. -/
def State.underOffer (s : State) (t : TargetNo) : List Record :=
  s.records.filter fun r => r.target == t && r.offer.isSome

/-- The offer of a target agrees with its state: in OFFERED exactly one record is under offer, which the
current offer names by slot and tag; in every other state none is (R95). -/
abbrev OfferSound (s : State) (t : TargetNo) : Prop :=
  if s.targets[t].state = .offered then
    ∃ r ∈ s.records, s.underOffer t = [r] ∧
      s.targets[t].offer = r.offer.map fun m => { tag := m.tag, slot := r.slot }
  else s.underOffer t = [] ∧ s.targets[t].offer = none

/-- The stack of a target is strictly more urgent from bottom to top, and a record under offer is strictly
more urgent than its top entry (R79, R81). -/
abbrev StackSound (s : State) (t : TargetNo) : Prop :=
  s.targets[t].stack.Pairwise (fun upper lower => upper.level < lower.level) ∧
    ∀ r ∈ s.underOffer t, ∀ e ∈ s.targets[t].stack, r.level < e.level

/-- The claim timer runs in OFFERED and WAKING, the hold timer in HELD, and retries left is held in OFFERED
and WAKING (R95). -/
abbrev TimersSound (g : Target) : Prop :=
  (g.claimTimer.isSome ↔ g.state = .offered ∨ g.state = .waking) ∧
    (g.holdTimer.isSome ↔ g.state = .held) ∧
    (g.retriesLeft.isSome ↔ g.state = .offered ∨ g.state = .waking) ∧
    (g.wakeSent.isSome ↔ g.state = .waking)

/-- The Pending Store and the Delivery Controller agree (R22, R79, R95). -/
abbrev DeliverySound (s : State) : Prop :=
  SlotsSound s ∧ ∀ t : TargetNo, OfferSound s t ∧ StackSound s t ∧ TimersSound s.targets[t]

/-- The records of a key that are not under offer. -/
def State.waitingRecords (s : State) (t : TargetNo) (i : Index) (m : Mode) : List Record :=
  s.records.filter fun r => r.target == t && r.index == i && r.mode == m && r.offer.isNone

/-- For each target, entry index and mode MERGE or COUNT at most one record waits, and for each target and
entry index at most 8 QUEUE records are held (R27, R30). -/
abbrev KeysSound (s : State) : Prop :=
  ∀ r ∈ s.records,
    (r.mode ≠ .queue → (s.waitingRecords r.target r.index r.mode).length ≤ 1) ∧
      s.queueCount r.target r.index ≤ 8

/-- The fields of a record lie in the ranges of R23: a COUNT record counts 1 to 15 and has no payload, the
others have no count, and no payload is longer than two words. -/
abbrev RecordSound (r : Record) : Prop :=
  (if r.mode = .count then 1 ≤ r.count.getD 0 ∧ r.count.getD 0 ≤ 15 ∧ r.payload = [] else r.count = none) ∧
    r.payload.length ≤ 2

/-- The number of payload words of a received frame; only an EVENT carries any (R42). -/
def InFrame.payloadWords : InFrame → Nat
  | .event _ payload => payload.length
  | _ => 0

/-- Every record of the pool, and the payload of every EVENT frame that waits or is in progress, is in range
(R23, R42). -/
abbrev RecordsSound (s : State) : Prop :=
  (∀ r ∈ s.records, RecordSound r) ∧ (∀ l : LinkNo, ∀ f ∈ s.links[l].ingress, f.payloadWords ≤ 2) ∧
    ∀ n : SourceLink, ∀ p ∈ s.arriving[n], p.payload.length ≤ 2

/-- Every frame that waits in a transmit list has a body of at most 48 bytes; the length of a body does not
depend on the grant count it may carry (R196). -/
abbrev FramesSound (s : State) : Prop :=
  ∀ l : LinkNo, ∀ q ∈ s.links[l].transmit, (q.frame.body 0).length ≤ 48

/-- A link holds at most 4 received frames and one waiting CREDIT frame, counts at most 15 errors (14 while
UP), runs the training timer in TRAINING and the quiet timer in FAULTED, and holds no frame and a grant
count of 4 while it is not UP (R141, R146, R147, R152, R156). -/
abbrev LinkSound (k : Link) : Prop :=
  k.ingress.length ≤ 4 ∧ k.errors ≤ 15 ∧ (k.state = .up → k.errors ≤ 14) ∧
    (k.transmit.filter fun q => q.frame == .credit).length ≤ 1 ∧
    (k.trainingTimer = true ↔ k.state = .training) ∧ (k.quietTimer = true → k.state = .faulted) ∧
    (k.state ≠ .up → k.ingress = [] ∧ k.transmit = [] ∧ k.grant = 4)

/-- An EVENT frame in progress entered the buffer in this session of its link or an earlier one. In its own session
it is the oldest EVENT frame of the buffer, where it holds its place; none is in progress during the image load
(R43, R63, R64, R150). -/
abbrev EventSound (s : State) (n : SourceLink) (p : PassedEvent) : Prop :=
  s.loading = false ∧ p.session ≤ s.links[sourceLink n].session ∧
    (s.isUp (sourceLink n) = true → s.links[sourceLink n].session = p.session →
      s.links[sourceLink n].ingress.find? InFrame.isEvent = some (.event p.event p.payload))

/-- Every link is sound, is DOWN exactly during the image load, a target is OFFLINE exactly when its link is not
UP, and every EVENT frame in progress is sound (R43, R95, R142, R162). -/
abbrev LinksSound (s : State) : Prop :=
  (∀ l : LinkNo, LinkSound s.links[l] ∧ (s.links[l].state = .down ↔ s.loading = true)) ∧
    (∀ t : TargetNo, s.targets[t].state = .offline ↔ s.isUp (targetLink t) = false) ∧
    ∀ n : SourceLink, ∀ p ∈ s.arriving[n], EventSound s n p

/-- A target in READY holds no eligible record, and one in ASLEEP holds none at or below its wake level
(R97, R115, R116). -/
abbrev NothingOverdue (s : State) : Prop :=
  ∀ r ∈ s.records,
    (s.targets[r.target].state = .ready → s.targets[r.target].serviceBound ≤ r.level.val) ∧
      (s.targets[r.target].state = .asleep → s.targets[r.target].wakeLevel < r.level)

/-- While the freeze flag is set no copy phase and no SAVE runs; a copy phase and a SAVE never run together;
and the engine holds a save record exactly while a SAVE runs (R17, R166, R181, R193). -/
abbrev LongOperationsSound (s : State) : Prop :=
  (s.frozen → s.copyState = .idle ∧ s.saving = none) ∧
    (s.copyState = .copying → s.saving = none) ∧
    (s.saveRecord.isSome ↔ s.saving.isSome)

/-- Every entry, window and link record field of an image is legal (R3, R4, R161). -/
abbrev ImageLegal (im : Image) : Prop :=
  BankLegal im.table ∧ (∀ l : LinkNo, im.records[l].legal) ∧ ∀ t : TargetNo, im.timers[t].legal

/-- The slot summary says of each slot what the test of R184 says of it. -/
abbrev SummaryTrue (s : State) : Prop :=
  ∀ k : ImageSlot, s.summary[k] = s.slots[k].image.map Prod.fst

/-- The slot summary is true, and the target slot of a running SAVE has its check field erased, is marked
not valid and is written from a legal snapshot (R184, R189, R190). -/
abbrev ImageStoreSound (s : State) : Prop :=
  SummaryTrue s ∧
    ∀ run ∈ s.saving,
      s.slots[run.slot].check = none ∧ s.summary[run.slot] = none ∧ ImageLegal run.snapshot

/-- The slot that holds the valid image of highest generation, by the slot summary; slot 0 when two are
equal (R185, R189). -/
def State.newestSlot (s : State) : Option ImageSlot :=
  match s.summary[0], s.summary[1] with
  | some g0, some g1 => if g0 < g1 then some 1 else some 0
  | some _, none => some 0
  | none, some _ => some 1
  | none, none => none

/-! ## Links, as the statements name them -/

/-- The state with one link's controller replaced, and nothing else changed. -/
def State.withLink (s : State) (l : LinkNo) (k : Link) : State :=
  { s with links := s.links.set l k }

/-- The state with one target's block replaced, and nothing else changed. -/
def State.withTarget (s : State) (t : TargetNo) (g : Target) : State :=
  { s with targets := s.targets.set t g }

/-- The state with a frame at the tail of a link's transmit list, and nothing else changed. -/
def State.queued (s : State) (l : LinkNo) (f : OutFrame) : State :=
  s.withLink l
    { s.links[l] with transmit := s.links[l].transmit ++ [{ frame := f, thenReset := false }] }

/-- The HELLO marked CALL of a link, as it leaves the lane: kind 01h, the role of the link, mark 00h (R143,
11.2). -/
def callOf (l : LinkNo) : Wire :=
  { kind := 0x01
    body := [if l.val < 12 then 0x00 else 0x01, 0x00]
    check := frameCheck 0x01 [if l.val < 12 then 0x00 else 0x01, 0x00] }

/-- The link in TRAINING, its call sent and its training timer running (R143). -/
def Link.calling (l : LinkNo) (k : Link) : Link :=
  { k with state := .training, trainingTimer := true, quietTimer := false, sent := k.sent ++ [callOf l] }

/-- The link with one more frame finished: the grant count is one higher, and a CREDIT frame waits (R151,
R152). -/
def Link.finished (k : Link) : Link :=
  { k with
    grant := k.grant + 1
    transmit :=
      if k.transmit.any fun q => q.frame == .credit then k.transmit
      else k.transmit ++ [{ frame := .credit, thenReset := false }] }

/-- The link just after a session start, with the HELLO marked ANSWER as its first frame when the peer
called (R144, R160). -/
def Link.started (l : LinkNo) (answer : Bool) (k : Link) : Link :=
  { state := .up
    ingress := []
    grant := 4
    errors := 0
    transmit :=
      if answer then
        [{ frame := .hello (if l.val < 12 then .source else .target) .answer, thenReset := false }]
      else []
    trainingTimer := false
    quietTimer := false
    record := k.record
    session := k.session + 1
    sent := k.sent }

/-- A target in a state without an offer or a timer, with all else as it was (R95). -/
def Target.resting (state : TargetState) (g : Target) : Target :=
  { state := state, stack := g.stack, threshold := g.threshold, wakeLevel := g.wakeLevel, offer := none,
    tagCounter := g.tagCounter, claimTimer := none, holdTimer := none, retriesLeft := none,
    wakeSent := none }

/-- A target just after session start, before it is re-examined (R124). -/
def Target.fresh : Target :=
  { state := .ready, stack := [], threshold := 8, wakeLevel := 7, offer := none, tagCounter := 0,
    claimTimer := none, holdTimer := none, retriesLeft := none, wakeSent := none }

/-- The state after a session start on a link: the link as R144 gives it and, on a target link, the target
as R124 gives it, re-examined. -/
def State.sessionStarted (s : State) (l : LinkNo) (answer : Bool) : State :=
  let b := s.withLink l (s.links[l].started l answer)
  match linkTarget l with
  | some t => (b.withTarget t Target.fresh).reexamine t
  | none => b

/-- The fault report of a target's PROTOCOL fault (R102, R129): link 12 plus t, target t, and the code of the
reason × 256 plus the value. -/
def protocolFault (t : TargetNo) (index : Option Index) (code value : Byte) : FaultRecord :=
  { kind := .protocol
    link := some ⟨12 + t.val, by omega⟩
    target := some t
    index := index
    event := none
    detail := BitVec.ofNat 16 (code.toNat * 256 + value.toNat) }

/-- A frame that a peer sends, as its bytes' kind and body (11.2). -/
def InFrame.kindAndBody : InFrame → Byte × List Byte
  | .event number payload => (0x03, number :: payload.flatMap (bytesOf 4))
  | .request sequence operation operands => (0x05, sequence :: operation :: operands)
  | .claim tag => (0x0B, [tag])
  | .refuse tag => (0x0C, [tag])
  | .done tag => (0x0D, [tag])
  | .ready => (0x0E, [])
  | .level value => (0x0F, [value])
  | .sleep value => (0x10, [value])

/-- The bytes of a frame with its right check value (R196, R197). -/
def frameBytes (kind : Byte) (body : List Byte) : List Byte :=
  (kind :: BitVec.ofNat 8 body.length :: body) ++ bytesOf 2 (frameCheck kind body)

/-- The kinds other than HELLO that a peer may send on a link, by code (R157). -/
def peerSends (l : LinkNo) (kind : Byte) : Bool :=
  if l.val < 12 then kind == 0x03 || kind == 0x05
  else kind == 0x05 || (0x0B ≤ kind && kind ≤ 0x10)

/-- The body lengths that agree with a kind that a peer sends (11.2). -/
def lengthAgrees (kind : Byte) (n : Nat) : Bool :=
  if kind = 0x03 then n == 1 || n == 5 || n == 9
  else if kind = 0x05 then 2 ≤ n && n ≤ 48
  else if kind = 0x0E then n == 0
  else n == 1

/-! ## Arrivals, as the statements name them -/

/-- The arrival of an origin passes the window step at entry index `i` (R4, R48). -/
abbrev Reaches (s : State) (o : Origin) (i : Index) : Prop :=
  o.event.toNat < s.activeBank.windows[o.source].size.val ∧
    i.val = s.activeBank.windows[o.source].base.val + o.event.toNat

/-- The entry at index `i` admits the arrival as far as its mask flag, its valid field and the queue limit
of its chosen targets go (R49, R50, R56). -/
abbrev Admitted (s : State) (i : Index) : Prop :=
  s.maskMap[i] = false ∧ s.activeBank.entries[i].valid = true ∧
    (s.activeBank.entries[i].mode = .queue →
      ∀ t ∈ s.chosenTargets i s.activeBank.entries[i],
        s.queueCount t i < s.activeBank.entries[i].queueLimit.val)

/-- The number k of chosen targets that need a new record: those that hold no waiting record of the key, or
all of them in mode QUEUE (R27, R55). -/
def State.neededAt (s : State) (i : Index) : Nat :=
  ((s.chosenTargets i s.activeBank.entries[i]).filter fun t =>
    s.activeBank.entries[i].mode == .queue ||
      (s.waitingRecords t i s.activeBank.entries[i].mode).isEmpty).length

/-- The arrival at index `i`, looked up and not masked, is refused for the reason; the target, the value of
the detail and the figure `reserve` of the pool test are those of R47 and R57. -/
def RefusedAt (s : State) (i : Index) (reserve : Nat) (reason : RefusalReason) (t : Option TargetNo)
    (value : Nat) : Prop :=
  let e := s.activeBank.entries[i]
  s.maskMap[i] = false ∧
    match reason with
    | .outOfWindow => False
    | .unmapped => e.valid = false ∧ t = none ∧ value = 0
    | .queueFull =>
      e.valid = true ∧ e.mode = .queue ∧ value = e.queueLimit.val ∧
        ∃ g ∈ s.chosenTargets i e, t = some g ∧ e.queueLimit.val ≤ s.queueCount g i ∧
          ∀ u ∈ s.chosenTargets i e, u < g → s.queueCount u i < e.queueLimit.val
    | .poolFull =>
      Admitted s i ∧ t = none ∧ value = s.freeCount ∧ 0 < s.neededAt i ∧
        s.freeCount < s.neededAt i + reserve

/-- The report of a refusal (R47, R129). -/
def refusalReport (o : Origin) (reason : RefusalReason) (t : Option TargetNo) (i : Option Index)
    (value : Nat) : FaultRecord :=
  { kind :=
      match reason with
      | .outOfWindow => .outOfWindow
      | .unmapped => .unmapped
      | .queueFull => .queueFull
      | .poolFull => .poolFull
    link := if h : o.source.val < 12 then some ⟨o.source.val, by omega⟩ else none
    target := t
    index := i
    event := some o.event
    detail := BitVec.ofNat 16 (o.source.val * 256 + value) }

/-- The record that a new record of an arrival is, but for its slot (R25). -/
abbrev IsNewRecord (x : Record) (t : TargetNo) (i : Index) (e : Entry) (o : Origin) (payload : List Word) :
    Prop :=
  x.target = t ∧ x.index = i ∧ x.vector = e.vector ∧ x.level = e.level ∧ x.mode = e.mode ∧ x.origin = o ∧
    (if e.mode = .count then x.count = some 1 ∧ x.payload = []
      else x.count = none ∧ x.payload = payload)

/-- The records of a chosen target that an arrival at index `i` coalesces with; none in mode QUEUE (R27, R55). -/
def State.coalescable (s : State) (i : Index) (g : TargetNo) : List Record :=
  if s.activeBank.entries[i].mode = .queue then []
  else s.waitingRecords g i s.activeBank.entries[i].mode

/-- A record after one more arrival of its key: COUNT counts it, at most to 15, MERGE takes its payload, and the
origin is the later one (R28, R29). -/
def Record.joined (r : Record) (o : Origin) (payload : List Word) : Record :=
  if r.mode = .count then { r with count := some (min 15 (r.count.getD 0 + 1)), origin := o }
  else { r with payload := payload, origin := o }

/-- `b` is the state in which the arrival of an origin at index `i` is placed for every chosen target and no
report has yet reached the Delivery Controller: the new records stand at the tail, in the lowest-numbered free
slots, one for each chosen target that holds none to coalesce with; one that holds one has it joined; every other
record is as it was; and no fault is reported unless a count of 15 is exceeded (R22, R25, R28, R29, R31, R58). -/
def PlacedIn (s b : State) (i : Index) (o : Origin) (payload : List Word) : Prop :=
  let e := s.activeBank.entries[i]
  let chosen := s.chosenTargets i e
  let made := b.records.drop s.records.length
  b.records.map Record.slot = s.records.map Record.slot ++ s.freeSlots.take (s.neededAt i) ∧
    b.freeCount + s.neededAt i = s.freeCount ∧
    (made.map Record.target).Perm (chosen.filter fun g => (s.coalescable i g).isEmpty) ∧
    (∀ x ∈ made, x.offer = none ∧ IsNewRecord x x.target i e o payload) ∧
    (∀ x ∈ s.records, (∀ g ∈ chosen, x ∉ s.coalescable i g) → x ∈ b.records) ∧
    (∀ g ∈ chosen, ∀ x, s.coalescable i g = [x] → x.joined o payload ∈ b.records) ∧
    ((∀ g ∈ chosen, ∀ x ∈ s.coalescable i g, x.mode = .count → x.count.getD 0 < 15) →
      b.faults = s.faults ∧ b.lostFaults = s.lostFaults ∧ b.raised = s.raised) ∧
    (o.source = 12 → b.raised = s.raised) ∧
    b = { s with records := b.records, faults := b.faults, lostFaults := b.lostFaults, raised := b.raised }

/-- The placement of `b` is reported to the Delivery Controller for each chosen target, with the level of the
record made or joined, and then the pointer of a ROTATE entry is set (R54, R58; the order of the targets is that
of notes/assumptions/3.md). -/
def State.reported (s b : State) (i : Index) (order : List TargetNo) : State :=
  let e := s.activeBank.entries[i]
  let chosen := s.chosenTargets i e
  let level := fun g : TargetNo =>
    match s.coalescable i g with
    | r :: _ => r.level
    | [] => e.level
  let told := (takenOrder order chosen).foldl (fun x g => x.notify g (level g)) b
  { told with
    pointers :=
      match e.distribution, chosen.head? with
      | .rotate, some g => s.pointers.set i (some g)
      | _, _ => s.pointers }

/-- The arrival of an EVENT frame is no longer in progress, and the frame is finished when its session is still
the present one of a link in UP; otherwise it left the buffer with its session (R43, R147, R151). -/
def State.eventEnded (s : State) (n : SourceLink) (p : PassedEvent) : State :=
  let ended : State := { s with arriving := s.arriving.set n none }
  if s.isUp (sourceLink n) = true ∧ s.links[sourceLink n].session = p.session then
    ended.withLink (sourceLink n)
      { s.links[sourceLink n] with
        ingress := s.links[sourceLink n].ingress.eraseP InFrame.isEvent }.finished
  else ended

/-- The command that takes a target frame of a target; none for the frames of the other blocks (R150). -/
def InFrame.command (g : TargetNo) : InFrame → Option Instr
  | .claim _ => some (.claimFrame g)
  | .refuse _ => some (.refuseFrame g)
  | .done _ => some (.doneFrame g)
  | .ready => some (.readyFrame g)
  | .level _ => some (.levelFrame g)
  | .sleep _ => some (.sleepFrame g)
  | .event _ _ => none
  | .request _ _ _ => none

/-! ## Requests and responses, as the statements name them -/

/-- A frame in answer to a session of a link: it waits at the tail of the transmit list while that session
lasts, and is discarded when it has ended (R148). -/
def State.answeredIn (s : State) (l : LinkNo) (session : Nat) (f : OutFrame) : State :=
  if s.isUp l = true ∧ s.links[l].session = session then s.queued l f else s

/-- An UNMASK is current no longer and is answered OK with its three counts, in the session of its request (R70). -/
def State.unmaskAnswered (s : State) (u : UnmaskRun) : State :=
  ({ s with current := none } : State).answeredIn u.request.link u.request.session
    (.response u.request.sequence .ok
      (bytesOf 2 (BitVec.ofNat 16 u.cleared) ++ bytesOf 2 (BitVec.ofNat 16 u.placed) ++
        bytesOf 2 (BitVec.ofNat 16 u.refused)))

/-- The state after `n` of one command, with nothing between them. -/
def State.repeated (s : State) (c : Instr) : Nat → State
  | 0 => s
  | n + 1 =>
    match exec c s with
    | .next t => t.repeated c n
    | _ => s

/-- `b` is the state in which one handling of RESTART has been done, and nothing else: records, offers, stacks and
thresholds, with VOID for each current offer; or the latches; or the pointers (R40, R63, R75, R93, R126). -/
def RestartHandled (s b : State) : RestartPart → Prop
  | .delivery =>
    b.records = [] ∧
      (∀ g : TargetNo, b.targets[g] =
        { s.targets[g].resting (if s.isUp (targetLink g) then .ready else .offline) with
          stack := [], threshold := 8 }) ∧
      (∀ l : LinkNo, b.links[l] =
        { s.links[l] with
          transmit := s.links[l].transmit ++
            match (linkTarget l).bind fun g => s.targets[g].offer with
            | some o => [{ frame := .void o.tag, thenReset := false }]
            | none => [] }) ∧
      b = { s with records := b.records, targets := b.targets, links := b.links }
  | .latches => (∀ i : Index, b.latches[i] = none) ∧ b = { s with latches := b.latches }
  | .pointers => (∀ i : Index, b.pointers[i] = none) ∧ b = { s with pointers := b.pointers }

/-- The status of a request whose operands have a length that fits but name an index beyond its range or a value
that is not legal, by the order of tests of its operation; none when a test before these fails, or none fails
(R7, R10, R11, R38, R68, R70, R74, R136, R137, R173, R174, R176, R177). -/
def State.badOperands (s : State) (op : Operation) (operands : List Byte) : Option Status :=
  match op, operands with
  | .readLink, [l] => if 16 ≤ l.toNat then some .badIndex else none
  | .resetLink, [l] => if 16 ≤ l.toNat then some .badIndex else none
  | .setLink, [l, _, limit, auto, timeout, retries, hold] =>
    if s.frozen then none
    else if 16 ≤ l.toNat then some .badIndex
    else if limit.toNat = 0 ∨ 15 < limit.toNat ∨ 1 < auto.toNat then some .badValue
    else if 12 ≤ l.toNat ∧ (timeout.toNat = 0 ∨ 7 < retries.toNat ∨ hold.toNat = 0) then some .badValue
    else none
  | .readTarget, [t, part] =>
    if 4 ≤ t.toNat then some .badIndex else if 3 ≤ part.toNat then some .badValue else none
  | .readEntry, [selector, hi, lo, count] =>
    if selector = 0x01 ∧ s.copyState = .copying then none
    else if 512 ≤ (hi ++ lo : Half).toNat ∨ 512 < (hi ++ lo : Half).toNat + count.toNat then some .badIndex
    else if 1 < selector.toNat ∨ count.toNat = 0 ∨ 4 < count.toNat then some .badValue
    else none
  | .readWindow, [selector, n] =>
    if selector = 0x01 ∧ s.copyState = .copying then none
    else if 13 ≤ n.toNat then some .badIndex
    else if 1 < selector.toNat then some .badValue
    else none
  | .readPending, [t, level, hi, lo, count] =>
    if 4 ≤ t.toNat ∨ 8 ≤ level.toNat then some .badIndex
    else if 384 ≤ (hi ++ lo : Half).toNat ∨ count.toNat = 0 ∨ 4 < count.toNat then some .badValue
    else none
  | .mask, [a, b, c, d] =>
    if 512 ≤ (a ++ b : Half).toNat ∨ 512 ≤ (c ++ d : Half).toNat ∨ (c ++ d : Half) < a ++ b then some .badIndex
    else none
  | .unmask, [a, b, c, d] =>
    if 512 ≤ (a ++ b : Half).toNat ∨ 512 ≤ (c ++ d : Half).toNat ∨ (c ++ d : Half) < a ++ b then some .badIndex
    else none
  | .readMask, [hi, lo, count] =>
    if count.toNat = 0 ∨ 64 < count.toNat then some .badValue
    else if 512 < (hi ++ lo : Half).toNat + count.toNat then some .badIndex
    else none
  | .readFaults, [start, count] =>
    if 8 ≤ start.toNat ∨ count.toNat = 0 ∨ 4 < count.toNat then some .badValue else none
  | .clearFaults, [n, choice] =>
    if n.toNat = 0 ∨ 8 < n.toNat ∨ 1 < choice.toNat then some .badValue else none
  | _, _ => none

/-- The command of an operation's request; `pace` is for UNMASK. -/
def Operation.command (pace : Nat) : Operation → Instr
  | .readStatus => .readStatus | .readLink => .readLink | .setLink => .setLink
  | .readTarget => .readTarget | .resetLink => .resetLink | .restart => .restart | .freeze => .freeze
  | .writeEntry => .writeEntry | .writeWindow => .writeWindow | .readEntry => .readEntry
  | .readWindow => .readWindow | .commit => .commit | .cancel => .cancel
  | .readPending => .readPending | .mask => .maskRange | .unmask => .unmaskRange pace
  | .readMask => .readMask | .readFaults => .readFaults | .clearFaults => .clearFaults
  | .save => .saveTables

/-- The operand lengths that fit an operation (R200, 11.3). -/
def Operation.fits (n : Nat) : Operation → Bool
  | .readStatus => n == 0 | .readLink => n == 1 | .setLink => n == 7 | .readTarget => n == 2
  | .resetLink => n == 1 | .restart => n == 0 | .freeze => n == 0
  | .writeEntry => n == 6 || n == 10 || n == 14 || n == 18
  | .writeWindow => n == 3 | .readEntry => n == 4 | .readWindow => n == 2 | .commit => n == 1
  | .cancel => n == 3 | .readPending => n == 5 | .mask => n == 4 | .unmask => n == 4
  | .readMask => n == 3 | .readFaults => n == 2 | .clearFaults => n == 2 | .save => n == 0

/-- The engine may take the request `r`, it names the operation, and its session is the present one of a link
in UP. -/
abbrev Asked (s : State) (op : Operation) (r : Request) : Prop :=
  s.takenFor op = some r ∧ r.operation = op.code ∧ s.isUp r.link = true ∧
    s.links[r.link].session = r.session

/-- The request is asked with these operands and its link holds the right the operation needs. -/
abbrev Granted (s : State) (op : Operation) (r : Request) (operands : List Byte) : Prop :=
  Asked s op r ∧ r.operands = operands ∧ s.links[r.link].record.rights.has op.right = true

/-- The state in which the request has left the queue and its RESPONSE is the last frame of its link's
transmit list, and nothing else has changed. -/
def State.responded (s : State) (r : Request) (status : Status) (results : List Byte) : State :=
  ({ s with queue := s.queue.tail } : State).queued r.link (.response r.sequence status results)

end Sys2Proof.Machine
end

