-- ==== Sys2Proof/Certificates/Slice0/Obligations.lean ====
section
/-! DEFINITION. The statements about the model, in the order of OBLIGATIONS.json: the step, the codes, reset
and load, the invariants that every step keeps, the whole-machine rules, and what each command does. -/

open Sys2Proof Sys2Proof.Machine

/-! ## The step -/

/-- A step takes the command at the front of the queue and runs it on the state with the queue's rest
(the model's form of a block's step, notes/assumptions/7.md). -/
def Obligations.StepRunsFrontCommand : Prop :=
  ∀ (c : Instr) (q : List Instr) (s : State),
    step { s with pending := c :: q } = exec c { s with pending := q }

/-- Every command answers a next state in every state, and leaves the queue of waiting commands as it was. That a
command whose event cannot occur answers the unchanged state is the model's choice (notes/assumptions/5.md), and
so is the queue of commands (notes/assumptions/7.md). -/
def Obligations.EveryCommandCompletes : Prop :=
  ∀ (c : Instr) (s : State), ∃ t, exec c s = .next t ∧ t.pending = s.pending

/-! ## Codes -/

/-- The 4 bytes of a legal entry read back as that entry; an entry is read only when it is legal, and then
bits 6 to 4 of byte 1 and bits 7 to 4 of byte 3 are ignored and stored as 0. The same holds of a window's
2 bytes and of a link record's fields (R3, R4, R161, 11.4). -/
def Obligations.TableCodesRoundTrip : Prop :=
  (∀ e : Entry, e.legal = true → Entry.ofCode e.code = some e) ∧
  (∀ (w : Word) (e : Entry), Entry.ofCode w = some e →
    e.legal = true ∧ e.code = w &&& 0xFF8FFF0F) ∧
  (∀ x : Window, x.legal = true → Window.ofCode x.code = some x) ∧
  (∀ (c : Half) (x : Window), Window.ofCode c = some x → x.legal = true ∧ x.code = c) ∧
  (∀ r : LinkRecord, r.legal = true → LinkRecord.ofCode r.code = some r) ∧
  (∀ (c : BitVec 24) (r : LinkRecord), LinkRecord.ofCode c = some r →
    r.legal = true ∧ r.code = c &&& 0x0FFFFF) ∧
  (∀ r : TimerRecord, r.legal = true → TimerRecord.ofCode r.code = some r) ∧
  ∀ (c : BitVec 24) (r : TimerRecord), TimerRecord.ofCode c = some r → r.legal = true ∧ r.code = c

/-- The contents of a slot written from a legal image read back as that image, the slot with the check value
computed over it is valid with its generation, and a slot whose check field is erased is not (R184, 11.6). -/
def Obligations.ImageCodesRoundTrip : Prop :=
  (∀ (g : Word) (im : Image), ImageLegal im → readImage (im.contents g) = some im) ∧
  (∀ (c : SlotContents) (im : Image), readImage c = some im → ImageLegal im) ∧
  (∀ (g : Word) (im : Image), ImageLegal im →
    (Slot.written (im.contents g) (some (slotCheck (slotBytes (im.contents g))))).image = some (g, im)) ∧
  (∀ c : SlotContents, (Slot.written c none).image = none) ∧
  ∀ c : SlotContents, (slotBytes c).length = 2202

/-- A frame the router sends with a body of at most 255 bytes is taken back whole by the envelope rule,
with the bytes that follow it left over, and passes its check (R196, R197). -/
def Obligations.SentFramesReadBack : Prop :=
  ∀ (f : OutFrame) (grant : Byte) (rest : List Byte), (f.body grant).length ≤ 255 →
    Wire.ofBytes ((f.wire grant).bytes ++ rest) = some (f.wire grant) ∧
      (f.wire grant).passes = true ∧
      (f.wire grant).bytes = frameBytes f.kind.code (f.body grant) ∧
      ((f.wire grant).bytes ++ rest).drop ((f.body grant).length + 4) = rest

/-! ## Full reset and image load -/

/-- FULL_RESET empties the pool, the latches, the pointers, the fault list, the raise queue and the
management queue, loses every arrival in progress, clears every mask flag, puts every target OFFLINE and every
link DOWN, ends a copy phase and a SAVE, and leaves every slot but a running SAVE's target slot as it was. -/
def Obligations.FullResetLeaves : Prop :=
  ∀ s : State, ∃ t, exec .fullReset s = .next t ∧
    t.loading = true ∧ t.active = .a ∧ t.copyState = .idle ∧ t.frozen = false ∧
    t.records = [] ∧ t.freeCount = 384 ∧
    (∀ i : Index, t.pointers[i] = none ∧ t.maskMap[i] = false ∧ t.latches[i] = none) ∧
    (∀ g : TargetNo, t.targets[g].state = .offline ∧ t.targets[g].stack = [] ∧
      t.targets[g].threshold = 8 ∧ t.targets[g].wakeLevel = 7 ∧ t.targets[g].offer = none ∧
      t.targets[g].tagCounter = 0 ∧ t.targets[g].claimTimer = none ∧ t.targets[g].holdTimer = none ∧
      t.targets[g].retriesLeft = none) ∧
    (∀ n : SourceLink, t.arriving[n] = none) ∧ t.presented = none ∧
    t.faults = [] ∧ t.lostFaults = 0 ∧ t.raised = [] ∧ t.faultAsserted = false ∧
    (∀ l : LinkNo, t.links[l].state = .down ∧ t.links[l].ingress = [] ∧ t.links[l].transmit = [] ∧
      t.links[l].grant = 4 ∧ t.links[l].errors = 0 ∧ t.links[l].trainingTimer = false ∧
      t.links[l].quietTimer = false) ∧
    t.queue = [] ∧ t.current = none ∧ t.saveRecord = none ∧ t.saving = none ∧
    (∀ k : ImageSlot, (∀ run ∈ s.saving, run.slot ≠ k) → t.slots[k] = s.slots[k]) ∧
    ∀ run ∈ s.saving, t.slots[run.slot].image = none

/-- When the load ends with no valid slot, both banks hold the start table with bank A active, the mask
flags are clear, the link records have their start values, NO_IMAGE is recorded first and raised, the
loaded image is none and every link is in TRAINING (R20, R187). -/
def Obligations.LoadWithoutImage : Prop :=
  ∀ s : State, s.loading = true → (∀ k : ImageSlot, s.slots[k].image = none) →
    s.faults = [] → s.raised = [] →
    ∃ t, exec .imageLoad s = .next t ∧ t.loading = false ∧ t.active = .a ∧
      (∀ b ∈ [t.bankA, t.bankB],
        (∀ i : Index, b.entries[i] =
          { valid := false, vector := 0, level := 0, mode := .merge, queueLimit := 1,
            distribution := .direct, targets := 0 }) ∧
        ∀ n : SourceNo, b.windows[n] = { base := 0, size := 0 }) ∧
      (∀ i : Index, t.maskMap[i] = false) ∧
      (∀ l : LinkNo,
        t.links[l].record.rights =
            (if l = 12 then { read := true, write := true, commit := true, control := true }
              else { read := false, write := false, commit := false, control := false }) ∧
          t.links[l].record.errorLimit = 8 ∧ t.links[l].record.autoRetrain = true ∧
          t.links[l] = { s.links[l].calling l with record := t.links[l].record }) ∧
      (∀ g : TargetNo, t.timers[g] = { claimTimeout := 32, retries := 3, holdTime := 16 }) ∧
      t.faults =
        [{ kind := .noImage, link := none, target := none, index := none, event := none,
           detail := 0 }] ∧
      t.raised = [{ event := .fault .noImage, payload := 0xFFFF0000 }] ∧ t.faultAsserted = true ∧
      t.loaded = none ∧ (∀ k : ImageSlot, t.summary[k] = none) ∧
      t = { s with
        loading := false, bankA := t.bankA, bankB := t.bankB, active := .a, maskMap := t.maskMap,
        links := t.links, timers := t.timers, faults := t.faults, raised := t.raised, loaded := none,
        summary := t.summary }

/-- When the load ends, the slot summary says of each slot whether it is valid, with its generation. The valid slot
with the larger generation is chosen, slot 0 when two are equal, and is the loaded image; its table goes to both
banks with bank A active, its mask map and link records are taken, every link is in TRAINING, the slots are not
written and no fault is reported. When no slot is valid, none is chosen and the loaded image is none (R185,
R186). -/
def Obligations.LoadChoosesNewestImage : Prop :=
  (∀ (s : State) (k : ImageSlot) (g : Word) (im : Image), s.loading = true →
    s.slots[k].image = some (g, im) →
    (∀ (j : ImageSlot) (g' : Word) (im' : Image), j ≠ k → s.slots[j].image = some (g', im') →
      g' < g ∨ (g' = g ∧ k = 0)) →
    ∃ t, exec .imageLoad s = .next t ∧
      (∀ j : ImageSlot, t.summary[j] = s.slots[j].image.map Prod.fst) ∧
      (∀ l : LinkNo, t.links[l] = { s.links[l].calling l with record := im.records[l] }) ∧
      t = { s with
        loading := false, bankA := im.table, bankB := im.table, active := .a, maskMap := im.maskMap,
        links := t.links, timers := im.timers, summary := t.summary,
        loaded := some { slot := k, generation := g } }) ∧
  ∀ s : State, s.loading = true → (∀ k : ImageSlot, s.slots[k].image = none) →
    ∃ t, exec .imageLoad s = .next t ∧ t.loaded = none ∧ t.slots = s.slots ∧
      ∀ k : ImageSlot, t.summary[k] = none

/-- A table saved is the table loaded: from a sound router that may start a SAVE, the SAVE, its end with
the memory reading back as written, a full reset and the image load bring back the active bank (in both
banks), the mask map and all link records as they stood at the SAVE. That SAVE_END is told what
the memory reads back is the model's form (notes/assumptions/14.md). -/
def Obligations.SaveThenLoadRestores : Prop :=
  ∀ (s : State) (r : Request), Granted s .save r [] → s.frozen = false → s.copyState = .idle →
    s.saving = none → TablesSound s → ImageStoreSound s →
    (∀ k : ImageSlot, s.summary[k] ≠ some 0xFFFFFFFF) →
    ∃ a b c d, exec .saveTables s = .next a ∧ exec (.saveEnd none none) a = .next b ∧
      exec .fullReset b = .next c ∧ exec .imageLoad c = .next d ∧
      d.bankA = s.activeBank ∧ d.bankB = s.activeBank ∧ d.active = .a ∧ d.maskMap = s.maskMap ∧
      (∀ l : LinkNo, d.links[l].record = s.links[l].record) ∧ d.timers = s.timers ∧
      (∃ k g, d.loaded = some { slot := k, generation := g } ∧
        ∀ (j : ImageSlot) (g' : Word), s.summary[j] = some g' → g' < g)

/-! ## Invariants -/

/-- The reset state is sound in every block. -/
def Obligations.ResetIsSound : Prop :=
  FaultUnitSound State.reset ∧ TablesSound State.reset ∧ MaskSound State.reset ∧
    QueueSound State.reset ∧ LinksSound State.reset ∧ DeliverySound State.reset ∧
    KeysSound State.reset ∧ RecordsSound State.reset ∧ NothingOverdue State.reset ∧
    LongOperationsSound State.reset ∧ ImageStoreSound State.reset ∧ FramesSound State.reset

/-- Every step keeps the bounds of the Fault Unit, and no internal arrival in progress during the image load (R128,
R133, R139; notes/assumptions/20.md). -/
def Obligations.FaultUnitStaysSound : Prop :=
  ∀ s t : State, FaultUnitSound s → step s = .next t → FaultUnitSound t

/-- Every step keeps every entry, window and link record legal (R3, R4, R161). -/
def Obligations.TablesStayLegal : Prop :=
  ∀ s t : State, TablesSound s → step s = .next t → TablesSound t

/-- Every step keeps latches at masked indexes alone, the flag of a presented release clear, and the current request
with counts of the indexes it has taken (R65, R66, R68 to R70). That a current MASK has an index to take and a
current RESTART a handling left, so that neither is current with its response alone left, is the model's choice
(notes/assumptions/9.md, with the steps of notes/assumptions/4.md and 19.md). -/
def Obligations.LatchesStayMasked : Prop :=
  ∀ s t : State, MaskSound s → step s = .next t → MaskSound t

/-- Every step keeps the limits of the management queue, and a link's requests leave it with the link's
session (R166, R171). -/
def Obligations.QueueStaysBounded : Prop :=
  ∀ s t : State, QueueSound s → step s = .next t → QueueSound t

/-- Every step keeps the fields of every link in agreement with its state (at most 4 received frames, one
waiting CREDIT frame, 15 errors, the training timer in TRAINING, the quiet timer in FAULTED, nothing held while
not UP), a target OFFLINE exactly while its link is not UP, and an EVENT frame in progress at its place in the
buffer while its session lasts (R43, R64, R95, R122, R141, R146, R147, R150, R152, R156;
notes/assumptions/20.md). -/
def Obligations.LinksStaySound : Prop :=
  ∀ s t : State, LinksSound s → step s = .next t → LinksSound t

/-- Every step keeps the pool, the offers, the stacks and the timers in agreement: at most one record in
a slot, exactly one record under offer in OFFERED and none otherwise, every stack strictly more urgent
from bottom to top (R22, R79, R95). -/
def Obligations.DeliveryStaysSound : Prop :=
  ∀ s t : State, LinksSound s → DeliverySound s → step s = .next t → DeliverySound t

/-- Every step keeps at most one waiting MERGE or COUNT record of a key and at most 8 QUEUE records of a
target and index (R27, R30). -/
def Obligations.KeysStayUnique : Prop :=
  ∀ s t : State, LinksSound s → DeliverySound s → KeysSound s → step s = .next t → KeysSound t

/-- Every step keeps the fields of every record in range: a COUNT record counts 1 to 15 and carries no
payload (R23, R29). -/
def Obligations.RecordsStayInRange : Prop :=
  ∀ s t : State, RecordsSound s → step s = .next t → RecordsSound t

/-- Every step keeps every frame that waits to be sent within the 48 bytes of a body, whatever a request asks
for (R196, R201, 11.1, 11.3). -/
def Obligations.FramesStayInSize : Prop :=
  ∀ s t : State, RecordsSound s → FramesSound s → step s = .next t → FramesSound t

/-- Every step leaves a READY target with no eligible record, and an ASLEEP one with none at or below its
wake level (R97, R115, R116). -/
def Obligations.NothingStaysOverdue : Prop :=
  ∀ s t : State, NothingOverdue s → step s = .next t → NothingOverdue t

/-- Every step keeps freeze, copy phase and SAVE apart, and a save record exactly while a SAVE runs (R17,
R166, R181, R193). -/
def Obligations.LongOperationsStayApart : Prop :=
  ∀ s t : State, LongOperationsSound s → step s = .next t → LongOperationsSound t

/-- Every step keeps the slot summary true of the slots, and the target slot of a running SAVE not valid
(R183, R184, R190). -/
def Obligations.ImageStoreStaysSound : Prop :=
  ∀ s t : State, TablesSound s → ImageStoreSound s → step s = .next t → ImageStoreSound t

/-! ## Whole-machine rules -/

/-- While the freeze flag is set, no command but FULL_RESET and the image load after it changes the flag,
either bank, the active-bank choice, the copy state or a link record (R17, R181). -/
def Obligations.FrozenTablesStay : Prop :=
  ∀ (c : Instr) (s t : State), s.frozen = true → LongOperationsSound s → s.loading = false →
    c ≠ .fullReset → exec c s = .next t →
    t.frozen = true ∧ t.bankA = s.bankA ∧ t.bankB = s.bankB ∧ t.active = s.active ∧
      t.copyState = .idle ∧ (∀ l : LinkNo, t.links[l].record = s.links[l].record) ∧
      t.timers = s.timers

/-- No command writes the slot that holds the valid image of highest generation (R189). -/
def Obligations.NewestImageNeverWritten : Prop :=
  ∀ (c : Instr) (s t : State) (k : ImageSlot), ImageStoreSound s → s.newestSlot = some k →
    exec c s = .next t → t.slots[k] = s.slots[k]

/-- A request answered with a status other than OK changes nothing but the queue it leaves, and its
RESPONSE carries no results (R164, R165; a SAVE's FAILED is the end of a SAVE, not of this step). -/
def Obligations.RefusedRequestsChangeNothing : Prop :=
  ∀ (op : Operation) (pace : Nat) (s t : State) (r : Request) (q : Queued)
    (sequence : Byte) (status : Status) (results : List Byte),
    Asked s op r → exec (op.command pace) s = .next t →
    t.links[r.link].transmit = s.links[r.link].transmit ++ [q] →
    q.frame = .response sequence status results → status ≠ .ok →
    results = [] ∧ t = s.responded r status []

/-- What only a few commands change: the active-bank choice, the freeze flag, the banks, the mask map, the
rotation pointers, the arrivals in progress, the image slots and the loaded image; and only CLAIM makes a stack
deeper (R1, R17, R43, R52, R65, R80, R133, R183). That FULL_RESET keeps the banks, the link records and the loaded
image until the image load is the model's choice (notes/assumptions/2.md), and so is that the copy phase writes the
staging bank at its end alone (notes/assumptions/21.md). Arrivals in progress are those of
notes/assumptions/20.md. -/
def Obligations.OnlyTheirCommandsChange : Prop :=
  ∀ (c : Instr) (s t : State), exec c s = .next t →
    (t.active ≠ s.active → c = .commit ∨ c = .fullReset ∨ c = .imageLoad) ∧
    (t.frozen ≠ s.frozen → c = .freeze ∨ c = .fullReset) ∧
    (t.copyState ≠ s.copyState → c = .commit ∨ c = .copyPhaseEnd ∨ c = .fullReset) ∧
    (t.bankA ≠ s.bankA ∨ t.bankB ≠ s.bankB →
      c = .writeEntry ∨ c = .writeWindow ∨ c = .copyPhaseEnd ∨ c = .imageLoad) ∧
    (t.maskMap ≠ s.maskMap →
      c = .maskRange ∨ (∃ pace, c = .unmaskRange pace) ∨ (∃ order pace, c = .release order pace) ∨
        c = .fullReset ∨ c = .imageLoad) ∧
    (t.pointers ≠ s.pointers →
      (∃ n order, c = .externalArrival n order) ∨ (∃ order, c = .internalArrival order) ∨
        (∃ order pace, c = .release order pace) ∨ c = .restart ∨
        c = .fullReset) ∧
    (t.arriving ≠ s.arriving → (∃ n order, c = .externalArrival n order) ∨ c = .fullReset) ∧
    (t.presented ≠ s.presented → (∃ order, c = .internalArrival order) ∨ c = .fullReset) ∧
    (t.slots ≠ s.slots → c = .saveTables ∨ (∃ x y, c = .saveEnd x y) ∨ c = .fullReset) ∧
    (t.loaded ≠ s.loaded → c = .imageLoad) ∧
    (t.timers ≠ s.timers → c = .setLink ∨ c = .imageLoad) ∧
    (t.faults.length < s.faults.length → c = .clearFaults ∨ c = .fullReset) ∧
    ∀ g : TargetNo, s.targets[g].stack.length < t.targets[g].stack.length → c = .claimFrame g

/-! ## The Fault Unit -/

/-- A fault report is recorded at the tail of the list, or counted as lost up to 255 when the list is
full; unmarked, it is raised at the tail of the raise queue, or replaces the payload of the arrival of its
kind; marked internal, it is not raised; FAULT_N is asserted (R130, R131, R133, R135, R202). CLEAR_FAULTS
removes the oldest n records, answers how many and the lost count before, and zeroes that count for
clear-lost yes (R137). The first arrival of the raise queue is presented and leaves the queue when no internal
arrival is in progress, and an arrival of its kind raised while it is in progress joins the tail as a new one
(R133; that INTERNAL_ARRIVAL does both is notes/assumptions/20.md). -/
def Obligations.FaultListTakesAndClears : Prop :=
  (∀ (s : State) (r : FaultRecord) (marked : Bool),
    let t := s.report r marked
    let w := eventPayload r.link r.target r.detail
    (s.faults.length < 8 → t.faults = s.faults ++ [r] ∧ t.lostFaults = s.lostFaults) ∧
    (8 ≤ s.faults.length → t.faults = s.faults ∧ t.lostFaults = min 255 (s.lostFaults + 1)) ∧
    (marked = true → t.raised = s.raised) ∧
    (marked = false → (∀ x ∈ s.raised, x.event ≠ .fault r.kind) →
      t.raised = s.raised ++ [{ event := .fault r.kind, payload := w }]) ∧
    (marked = false → (∃ x ∈ s.raised, x.event = .fault r.kind) →
      t.raised.map Raised.event = s.raised.map Raised.event ∧
        ∀ x ∈ t.raised, if x.event = .fault r.kind then x.payload = w else x ∈ s.raised) ∧
    t.faultAsserted = true ∧
    t = { s with faults := t.faults, lostFaults := t.lostFaults, raised := t.raised }) ∧
  (∀ (link : Option LinkNo) (target : Option TargetNo) (detail : Half),
    (eventPayload link target detail).extractLsb' 24 8 =
        (match link with | some l => BitVec.ofNat 8 l.val | none => 0xFF) ∧
      (eventPayload link target detail).extractLsb' 16 8 =
        (match target with | some g => BitVec.ofNat 8 g.val | none => 0xFF) ∧
      (eventPayload link target detail).extractLsb' 0 16 = detail) ∧
  (∀ (s : State) (order : List TargetNo), s.presented = none → s.loading = false →
    (s.raised = [] → exec (.internalArrival order) s = .next s) ∧
    ∀ (x : Raised) (rest : List Raised), s.raised = x :: rest →
      exec (.internalArrival order) s = .next { s with raised := rest, presented := some x } ∧
      ∀ w : Word, (∀ y ∈ rest, y.event ≠ x.event) →
        (({ s with raised := rest, presented := some x } : State).raiseEvent x.event w) =
          { s with raised := rest ++ [{ event := x.event, payload := w }], presented := some x }) ∧
  ∀ (s : State) (r : Request) (n choice : Byte), Granted s .clearFaults r [n, choice] →
    1 ≤ n.toNat → n.toNat ≤ 8 → (choice = 0x00 ∨ choice = 0x01) →
    exec .clearFaults s = .next
      (({ s with
          faults := s.faults.drop n.toNat
          lostFaults := if choice = 0x01 then 0 else s.lostFaults } : State).responded r .ok
        [BitVec.ofNat 8 (s.faults.length - (s.faults.drop n.toNat).length),
          BitVec.ofNat 8 s.lostFaults])

/-! ## The pending pool and offers -/

/-- A re-examination in READY offers the oldest record of the most urgent level held, when that level is
below the service bound, with the next tag, the claim timer and the retries of the link record; it sends
nothing when no record is eligible or the target is not READY (R97 to R100). A reported placement is a
re-examination, but wakes an ASLEEP target at or below its wake level (R90, R116). -/
def Obligations.OfferIsMostUrgentOldest : Prop :=
  (∀ (s : State) (t : TargetNo), s.targets[t].state ≠ .ready → s.reexamine t = s) ∧
  (∀ (s : State) (t : TargetNo),
    (∀ r ∈ s.records, r.target = t →
      s.targets[t].threshold.val ≤ r.level.val ∨
        ∃ e rest, s.targets[t].stack = e :: rest ∧ e.level ≤ r.level) →
    s.reexamine t = s) ∧
  (∀ (s : State) (t : TargetNo) (before after : List Record) (r : Record),
    s.targets[t].state = .ready → s.isUp (targetLink t) = true → SlotsSound s →
    s.records = before ++ r :: after → r.target = t →
    r.level.val < s.targets[t].threshold.val →
    (∀ e rest, s.targets[t].stack = e :: rest → r.level < e.level) →
    (∀ x ∈ s.records, x.target = t → r.level ≤ x.level) →
    (∀ x ∈ before, x.target = t → x.level ≠ r.level) →
    s.reexamine t =
      (({ s with
          records :=
            before ++ { r with offer := some { tag := s.targets[t].tagCounter, void := false } } ::
              after } : State).withTarget t
        { s.targets[t] with
          state := .offered
          offer := some { tag := s.targets[t].tagCounter, slot := r.slot }
          tagCounter := s.targets[t].tagCounter + 1
          claimTimer := some s.timers[t].claimTimeout
          retriesLeft := some s.timers[t].retries }).queued (targetLink t)
        (.offer
          { tag := s.targets[t].tagCounter
            vector := r.vector
            level := r.level
            count := if r.mode = .count then r.count.getD 0 else 1
            origin := r.origin
            index := r.index
            payload := r.payload })) ∧
  (∀ (s : State) (t : TargetNo) (level : Level), s.targets[t].state ≠ .asleep →
    s.notify t level = s.reexamine t) ∧
  ∀ (s : State) (t : TargetNo) (level : Level), s.targets[t].state = .asleep →
    s.isUp (targetLink t) = true →
    s.notify t level =
      if level ≤ s.targets[t].wakeLevel then
        (s.withTarget t
          { s.targets[t] with
            state := .waking
            claimTimer := some s.timers[t].claimTimeout
            retriesLeft := some s.timers[t].retries
            wakeSent := some level }).queued (targetLink t) (.wake level)
      else s

/-- A withdrawn record keeps its slot and place and is no longer under offer; a twin of its key is merged
into it and freed: MERGE takes the twin's payload, COUNT the sum of the counts up to 15 with
COUNT_SATURATED for the rest, and both the twin's origin (R34). -/
def Obligations.WithdrawalMergesTwin : Prop :=
  ∀ (s : State) (r : Record), SlotsSound s → r ∈ s.records → s.targets[r.target].state = .offered →
    let sameKey := fun x : Record =>
      x.slot ≠ r.slot ∧ x.target = r.target ∧ x.index = r.index ∧ x.mode = r.mode ∧ x.offer = none
    ((r.mode = .queue ∨ ∀ x ∈ s.records, ¬ sameKey x) →
      s.withdraw r =
        { s with
          records := s.records.map fun x => if x.slot = r.slot then { r with offer := none } else x }) ∧
    ∀ w ∈ s.records, r.mode ≠ .queue → sameKey w → (∀ x ∈ s.records, sameKey x → x = w) →
      let sum := r.count.getD 0 + w.count.getD 0
      let merged : Record :=
        if r.mode = .count then
          { r with offer := none, origin := w.origin, count := some (min 15 sum) }
        else { r with offer := none, origin := w.origin, payload := w.payload }
      let b : State :=
        { s with
          records := (s.records.filter fun x => x.slot ≠ w.slot).map fun x =>
            if x.slot = r.slot then merged else x }
      s.withdraw r =
        if r.mode = .count ∧ 15 < sum then
          b.report
            { kind := .countSaturated
              link := if h : w.origin.source.val < 12 then some ⟨w.origin.source.val, by omega⟩ else none
              target := some r.target
              index := some r.index
              event := some w.origin.event
              detail := BitVec.ofNat 16 (sum - 15) } (w.origin.source == 12)
        else b

/-- A session end empties the link's buffer and transmit list, sets its grant count to 4, keeps its error
count and removes its requests from the queue; on a target link the offer ends (a void record is freed,
another withdrawn), the stack is emptied with SERVICE_ABANDONED when it held entries, the threshold is 8
and the target is OFFLINE, with tag counter and wake level kept (R91, R121, R147, R171). A target frame in progress is
taken whole first: the end is that of the state in which the frame's own command has run and the rest of the buffer is
gone (R123, R147; that it is the oldest target frame of the buffer is notes/assumptions/22.md). -/
def Obligations.SessionEndClearsLink : Prop :=
  ∀ (s : State) (l : LinkNo),
    let cleared : State :=
      { s.withLink l { s.links[l] with ingress := [], transmit := [], grant := 4 } with
        queue := s.queue.filter fun r => r.link ≠ l }
    (l.val < 12 → s.sessionEnd l = cleared) ∧
    (∀ (g : TargetNo) (f : InFrame), l = targetLink g → s.targetFrame g = some f →
      ∃ (c : Instr) (b : State), f.command g = some c ∧ exec c s = .next b ∧
        s.sessionEnd l = (b.withLink l { b.links[l] with ingress := [] }).sessionEnd l) ∧
    ∀ g : TargetNo, l = targetLink g → s.targets[g].state ≠ .offline → s.targetFrame g = none →
      SlotsSound s → ∀ b : State,
        (s.targets[g].state ≠ .offered ∧ b = cleared ∨
          ∃ r ∈ s.records, ∃ m, r.target = g ∧ r.offer = some m ∧ s.targets[g].state = .offered ∧
            s.targets[g].offer = some { tag := m.tag, slot := r.slot } ∧
            b = if m.void then
                { cleared with records := s.records.filter fun x => x.slot ≠ r.slot }
              else cleared.withdraw r) →
        s.sessionEnd l =
          ((match s.targets[g].stack with
            | [] => b
            | top :: rest =>
              b.report
                { kind := .serviceAbandoned
                  link := some l
                  target := some g
                  index := some top.index
                  event := none
                  detail := BitVec.ofNat 16 (rest.length + 1) } false).withTarget g
            { s.targets[g].resting .offline with stack := [], threshold := 8 })

/-! ## Links -/

/-- TRAINING_TIMER_EXPIRY sends another call; QUIET_TIMER_EXPIRY enters TRAINING when auto-retrain is yes
and else waits; CREDIT_REFRESH places a CREDIT frame unless one waits; FRAME_TRANSMIT sends the first frame
of the list, a CREDIT with the present grant count, and takes the reset that a RESET_LINK of its own link
asked for; a link that is not UP sends nothing (R143, R152, R153, R158 to R160). The session end of that reset takes
a target frame in progress first (R123, R147, notes/assumptions/22.md). -/
def Obligations.LinkServices : Prop :=
  ∀ (s : State) (l : LinkNo),
    (s.links[l].state = .training → s.links[l].trainingTimer = true →
      exec (.trainingTimerExpiry l) s =
        .next (s.withLink l { s.links[l] with sent := s.links[l].sent ++ [callOf l] })) ∧
    (s.links[l].state = .faulted → s.links[l].quietTimer = true →
      exec (.quietTimerExpiry l) s =
        .next (s.withLink l
          (if s.links[l].record.autoRetrain then s.links[l].calling l
            else { s.links[l] with quietTimer := false }))) ∧
    (s.links[l].state = .up →
      exec (.creditRefresh l) s =
        .next (if s.links[l].transmit.any fun q => q.frame == .credit then s else s.queued l .credit)) ∧
    (s.links[l].state = .up → s.links[l].transmit = [] → exec (.frameTransmit l) s = .next s) ∧
    (∀ (f : OutFrame) (reset : Bool) (rest : List Queued), s.links[l].state = .up →
      s.links[l].transmit = { frame := f, thenReset := reset } :: rest →
      let b := s.withLink l
        { s.links[l] with
          transmit := rest
          sent := s.links[l].sent ++
            [{ kind := f.kind.code
               body := if f = .credit then [s.links[l].grant] else f.body 0
               check := frameCheck f.kind.code
                 (if f = .credit then [s.links[l].grant] else f.body 0) }] }
      exec (.frameTransmit l) s =
        .next (if reset then (b.sessionEnd l).withLink l ((b.sessionEnd l).links[l].calling l) else b)) ∧
    (s.links[l].state ≠ .up → exec (.creditRefresh l) s = .next s ∧ exec (.frameTransmit l) s = .next s)

/-- A HELLO of the right role starts a session in TRAINING and restarts it in UP when marked CALL, with
an ANSWER for a CALL; an ANSWER in UP is ignored; a HELLO of the wrong role, or whose role or mark names
neither value, ends the session and puts the link in FAULTED with LINK_FAULTED 1; one that fails its check
in TRAINING is discarded (R144, R145, R199). The session end takes a target frame in progress first (R123, R147,
notes/assumptions/22.md). That the session ends before the fault is reported in UP is the model's choice
(notes/assumptions/12.md). -/
def Obligations.HelloStartsAndEndsSessions : Prop :=
  ∀ (s : State) (l : LinkNo) (body : List Byte), body.length ≤ 255 →
    let bytes := frameBytes 0x01 body
    let role : Byte := if l.val < 12 then 0x00 else 0x01
    let fault : FaultRecord :=
      { kind := .linkFaulted
        link := some l
        target := linkTarget l
        index := none
        event := none
        detail := 1 }
    let faulted := fun b : State =>
      (b.withLink l
        { b.links[l] with
          state := .faulted, transmit := [], trainingTimer := false, quietTimer := true }).report fault
        false
    (s.links[l].state = .training →
      (body = [role, 0x00] → exec (.helloInTraining l bytes) s = .next (s.sessionStarted l true)) ∧
      (body = [role, 0x01] → exec (.helloInTraining l bytes) s = .next (s.sessionStarted l false)) ∧
      (body ≠ [role, 0x00] → body ≠ [role, 0x01] →
        exec (.helloInTraining l bytes) s = .next (faulted s)) ∧
      ∀ w : Wire, w.body.length ≤ 255 → w.check ≠ frameCheck w.kind w.body →
        exec (.helloInTraining l w.bytes) s = .next s) ∧
    (s.links[l].state = .up →
      (body = [role, 0x00] →
        exec (.helloInUp l bytes) s = .next ((s.sessionEnd l).sessionStarted l true)) ∧
      (body = [role, 0x01] → exec (.helloInUp l bytes) s = .next s) ∧
      (body ≠ [role, 0x00] → body ≠ [role, 0x01] →
        exec (.helloInUp l bytes) s = .next (faulted (s.sessionEnd l))))

/-- A frame of a kind that the link's peer may send, of a length that agrees with its kind, joins the
buffer at its tail when it passes its check in UP and fewer than 4 frames wait (R149, 11.2); in DOWN and
FAULTED every frame is discarded without effect, and in TRAINING every frame but a HELLO (R144, R146). The oldest
EVENT frame of a source link's buffer is passed to the Arrival Unit when none of the link is in progress, and holds
its place in the buffer (R43, R150; that EXTERNAL_ARRIVAL does this is notes/assumptions/20.md). -/
def Obligations.FramesAreAccepted : Prop :=
  (∀ (s : State) (l : LinkNo) (f : InFrame), s.links[l].state = .up →
    s.links[l].ingress.length < 4 → peerSends l f.kindAndBody.1 = true → f.payloadWords ≤ 2 →
    (∀ sequence operation operands, f = .request sequence operation operands → operands.length ≤ 46) →
    exec (.frameReceive l (frameBytes f.kindAndBody.1 f.kindAndBody.2)) s =
      .next (s.withLink l { s.links[l] with ingress := s.links[l].ingress ++ [f] })) ∧
  (∀ (s : State) (l : LinkNo) (w : Wire), w.body.length ≤ 255 →
    (s.links[l].state = .down ∨ s.links[l].state = .faulted ∨
      s.links[l].state = .training ∧ w.kind ≠ 0x01) →
    exec (.frameReceive l w.bytes) s = .next s) ∧
  ∀ (s : State) (n : SourceLink) (order : List TargetNo), s.loading = false → s.arriving[n] = none →
    let k := s.links[sourceLink n]
    (k.state ≠ .up → exec (.externalArrival n order) s = .next s) ∧
    ((∀ f ∈ k.ingress, f.isEvent = false) → exec (.externalArrival n order) s = .next s) ∧
    ∀ (before after : List InFrame) (number : Byte) (payload : List Word), k.state = .up →
      k.ingress = before ++ .event number payload :: after → (∀ f ∈ before, f.isEvent = false) →
      exec (.externalArrival n order) s =
        .next { s with
          arriving :=
            s.arriving.set n (some { session := k.session, event := number, payload := payload }) }

/-- In UP a frame that fails its check is discarded, counted as an error and finished; one that passes but
finds 4 frames in the buffer is too, with CREDIT_OVERRUN; when the error count reaches the error limit,
LINK_FAULTED 2 is reported, the session ends and the link is FAULTED with its quiet timer running (R154 to
R156). The session end takes a target frame in progress first, so that its reports stand after LINK_FAULTED, as 8.13,
event 4, gives; that they have no other order is the model's choice (notes/assumptions/22.md). -/
def Obligations.FrameErrorsAreCounted : Prop :=
  ∀ (s : State) (l : LinkNo) (w : Wire) (overrun : Bool), s.links[l].state = .up →
    w.body.length ≤ 255 →
    (if overrun then w.check = frameCheck w.kind w.body ∧ w.kind ≠ 0x01 ∧ 4 ≤ s.links[l].ingress.length
      else w.check ≠ frameCheck w.kind w.body) →
    let errors := s.links[l].errors + 1
    let counted := s.withLink l { s.links[l].finished with errors := errors }
    let b :=
      if overrun then
        counted.report
          { kind := .creditOverrun
            link := some l
            target := linkTarget l
            index := none
            event := none
            detail := BitVec.ofNat 16 errors } false
      else counted
    (errors < s.links[l].record.errorLimit.val → exec (.frameReceive l w.bytes) s = .next b) ∧
    (s.links[l].record.errorLimit.val ≤ errors →
      let ended :=
        (b.report
          { kind := .linkFaulted
            link := some l
            target := linkTarget l
            index := none
            event := none
            detail := 2 } false).sessionEnd l
      exec (.frameReceive l w.bytes) s =
        .next (ended.withLink l
          { ended.links[l] with
            state := .faulted, transmit := [], trainingTimer := false, quietTimer := true }))

/-- In UP a frame that passes its check and finds room, but whose kind the peer may not send on the link, or
whose body length does not agree with its kind, is discarded with a PROTOCOL fault of detail WRONG_KIND
(16h) or LENGTH_MISMATCH (17h) × 256 plus the kind code, an ERR on a target link alone, and is finished,
with the error count unchanged (R157, R199). That the ERR stands
before the CREDIT frame is the model's choice (notes/assumptions/11.md). -/
def Obligations.WrongFramesAreReported : Prop :=
  ∀ (s : State) (l : LinkNo) (w : Wire), s.links[l].state = .up → w.body.length ≤ 255 →
    w.check = frameCheck w.kind w.body → w.kind ≠ 0x01 → s.links[l].ingress.length < 4 →
    (peerSends l w.kind = false ∨ lengthAgrees w.kind w.body.length = false) →
    let reason : ErrReason := if peerSends l w.kind = false then .wrongKind else .lengthMismatch
    let code : Nat := if peerSends l w.kind = false then 0x16 else 0x17
    let b := if l.val < 12 then s else s.queued l (.err reason w.kind)
    exec (.frameReceive l w.bytes) s =
      .next ((b.withLink l b.links[l].finished).report
        { kind := .protocol
          link := some l
          target := linkTarget l
          index := none
          event := none
          detail := BitVec.ofNat 16 (code * 256 + w.kind.toNat) } false)

/-! ## Arrivals -/

/-- A refused external arrival is reported with its link, raised, answered NACK with the reason and the event
number in the session of its frame, discarded when that session has ended, and finished; a refused internal arrival
is reported with the detail of source 12, not raised and not answered (R46 to R48, R50, R56, R57, R60, R64). The
arrival is in progress before (notes/assumptions/20.md). -/
def Obligations.ArrivalsAreRefused : Prop :=
  ∀ (s : State) (reason : RefusalReason) (t : Option TargetNo) (i : Option Index) (value : Nat)
    (order : List TargetNo),
    s.loading = false →
    (∀ (n : SourceLink) (p : PassedEvent) (o : Origin), s.arriving[n] = some p →
      o.source.val = n.val → o.event = p.event →
      (reason = .outOfWindow ∧ s.activeBank.windows[o.source].size.val ≤ p.event.toNat ∧ t = none ∧
          i = none ∧ value = s.activeBank.windows[o.source].size.val ∨
        ∃ j, i = some j ∧ Reaches s o j ∧ RefusedAt s j 8 reason t value) →
      exec (.externalArrival n order) s =
        .next (((s.report (refusalReport o reason t i value) false).answeredIn (sourceLink n) p.session
          (.nack reason p.event)).eventEnded n p)) ∧
    ∀ (x : Raised) (o : Origin), s.presented = some x → o.source = 12 →
      o.event = BitVec.ofNat 8 x.event.number →
      (reason = .outOfWindow ∧ s.activeBank.windows[o.source].size.val ≤ o.event.toNat ∧ t = none ∧
          i = none ∧ value = s.activeBank.windows[o.source].size.val ∨
        ∃ j, i = some j ∧ Reaches s o j ∧ RefusedAt s j 0 reason t value) →
      exec (.internalArrival order) s =
        .next (({ s with presented := none } : State).report (refusalReport o reason t i value) true)

/-- An arrival at a masked index makes or overwrites the latch of the index with its origin, whatever the
entry, and does nothing else: no NACK, no fault, no record; an external one is finished (R49, R64, R66). The arrival
is in progress before (notes/assumptions/20.md). -/
def Obligations.MaskedArrivalsAreLatched : Prop :=
  ∀ (s : State) (o : Origin) (i : Index) (order : List TargetNo), Reaches s o i →
    s.maskMap[i] = true → s.loading = false →
    (∀ (n : SourceLink) (p : PassedEvent), s.arriving[n] = some p → o.source.val = n.val →
      o.event = p.event →
      exec (.externalArrival n order) s =
        .next (({ s with latches := s.latches.set i (some o) } : State).eventEnded n p)) ∧
    ∀ x : Raised, s.presented = some x → o.source = 12 → o.event = BitVec.ofNat 8 x.event.number →
      exec (.internalArrival order) s =
        .next { s with presented := none, latches := s.latches.set i (some o) }

/-- An arrival at a legal entry that passes its tests is placed for every chosen target as PlacedIn says, the
placement is reported for each of them, whatever the order in which they are taken (notes/assumptions/3.md), and
the pointer of a ROTATE entry moves to the chosen target (R22, R25, R31, R54, R58). An external arrival is in
progress no longer, and its frame is finished when the session of the frame lasts; it is placed though that
session has ended (R43, R64). A release is counted as placed, and the UNMASK stays current, here with no further
act (pace 0, notes/assumptions/4.md). An external or internal arrival is in progress before
(notes/assumptions/20.md). The other source links are untouched, and nothing but delivery state and, for a
saturated count, the fault state changes. -/
def Obligations.ArrivalsArePlaced : Prop :=
  ∀ (s : State) (o : Origin) (i : Index) (order : List TargetNo), SlotsSound s → s.loading = false →
    s.activeBank.entries[i].legal = true → Admitted s i →
    (∀ (n : SourceLink) (p : PassedEvent), Reaches s o i → s.arriving[n] = some p →
      o.source.val = n.val → o.event = p.event → (s.neededAt i = 0 ∨ s.neededAt i + 8 ≤ s.freeCount) →
      ∃ b t, PlacedIn s b i o p.payload ∧ t = (s.reported b i order).eventEnded n p ∧
        exec (.externalArrival n order) s = .next t ∧
        t.links[sourceLink n] =
          (if s.isUp (sourceLink n) = true ∧ s.links[sourceLink n].session = p.session then
            { s.links[sourceLink n] with
              ingress := s.links[sourceLink n].ingress.eraseP InFrame.isEvent }.finished
          else s.links[sourceLink n]) ∧
        (∀ k : LinkNo, k.val < 12 → k ≠ sourceLink n → t.links[k] = s.links[k]) ∧
        t = { s with
          records := t.records, targets := t.targets, links := t.links, pointers := t.pointers,
          arriving := s.arriving.set n none, faults := b.faults, lostFaults := b.lostFaults,
          raised := b.raised }) ∧
    (∀ x : Raised, Reaches s o i → s.presented = some x → o.source = 12 →
      o.event = BitVec.ofNat 8 x.event.number → s.neededAt i ≤ s.freeCount →
      let taken : State := { s with presented := none }
      ∃ b t, PlacedIn taken b i o [x.payload] ∧ t = taken.reported b i order ∧
        exec (.internalArrival order) s = .next t ∧
        (∀ k : LinkNo, k.val < 12 → t.links[k] = s.links[k]) ∧
        t = { s with
          records := t.records, targets := t.targets, links := t.links, pointers := t.pointers,
          faults := b.faults, lostFaults := b.lostFaults, presented := none }) ∧
    ∀ u : UnmaskRun, s.current = some (.unmask u) →
      u.presented = some { index := i, origin := o } →
      (s.neededAt i = 0 ∨ s.neededAt i + 8 ≤ s.freeCount) →
      ∃ b t, PlacedIn s b i o [] ∧ t = s.reported b i order ∧
        exec (.release order 0) s =
          .next { t with current := some (.unmask { u with presented := none, placed := u.placed + 1 }) } ∧
        (∀ k : LinkNo, k.val < 12 → t.links[k] = s.links[k]) ∧
        t = { s with
          records := t.records, targets := t.targets, links := t.links, pointers := t.pointers,
          faults := b.faults, lostFaults := b.lostFaults, raised := b.raised }

/-- An arrival of any of the three kinds for one target whose waiting record it matches is folded into that
record: MERGE takes its payload, absent or present and absent for a release, COUNT counts one more up to 15,
with COUNT_SATURATED beyond, marked internal when the origin is the router, and both its origin; slot, place,
vector and level stay, and the placement is reported at the record's own level (R28, R29, R58, R71). The release
is counted, here with no further act of the UNMASK (pace 0, notes/assumptions/4.md); an external or internal
arrival is in progress before (notes/assumptions/20.md). -/
def Obligations.RepeatedArrivalsCoalesce : Prop :=
  ∀ (s : State) (o : Origin) (i : Index) (g : TargetNo) (r : Record) (order : List TargetNo), SlotsSound s →
    Admitted s i → s.loading = false →
    let e := s.activeBank.entries[i]
    e.mode ≠ .queue → s.chosenTargets i e = [g] → s.waitingRecords g i e.mode = [r] →
    let after := fun (x : State) (payload : List Word) =>
      let b : State :=
        { x with
          records := s.records.map fun y =>
            if y.slot = r.slot then
              if e.mode = .count then { r with count := some (min 15 (r.count.getD 0 + 1)), origin := o }
              else { r with payload := payload, origin := o }
            else y }
      let c :=
        if e.mode = .count ∧ 15 ≤ r.count.getD 0 then
          b.report
            { kind := .countSaturated
              link := if h : o.source.val < 12 then some ⟨o.source.val, by omega⟩ else none
              target := some g
              index := some i
              event := some o.event
              detail := BitVec.ofNat 16 (r.count.getD 0 + 1 - 15) } (o.source == 12)
        else b
      ({ c.notify g r.level with
          pointers := if e.distribution = .rotate then s.pointers.set i (some g) else s.pointers } : State)
    (∀ (n : SourceLink) (p : PassedEvent), Reaches s o i → s.arriving[n] = some p → o.source.val = n.val →
      o.event = p.event →
      exec (.externalArrival n order) s = .next ((after s p.payload).eventEnded n p)) ∧
    (∀ x : Raised, Reaches s o i → s.presented = some x → o.source = 12 →
      o.event = BitVec.ofNat 8 x.event.number →
      exec (.internalArrival order) s = .next (after { s with presented := none } [x.payload])) ∧
    ∀ u : UnmaskRun, s.current = some (.unmask u) →
      u.presented = some { index := i, origin := o } →
      exec (.release order 0) s =
        .next { after s [] with
          current := some (.unmask { u with presented := none, placed := u.placed + 1 }) }

/-- The target that ROTATE chooses is the first of the set, counting upwards from the one after the pointer
(from target 0 when it is none) and wrapping, that is neither OFFLINE nor LOST; when every target of the set
is, the first of the set (R53). DIRECT and BROADCAST choose every target of the set, whatever its state
(R51). -/
def Obligations.RotateChoosesNextInTurn : Prop :=
  ∀ (s : State) (i : Index) (e : Entry), e.legal = true → e.valid = true →
    let away := fun t : TargetNo =>
      s.targets[t].state = .offline ∨ s.targets[t].state = .lost
    let steps := fun t : TargetNo =>
      match s.pointers[i] with
      | some p => (t.val + 3 - p.val) % 4
      | none => t.val
    (e.distribution ≠ .rotate →
      ∀ t : TargetNo, t ∈ s.chosenTargets i e ↔ e.targets.getLsbD t.val = true) ∧
    (e.distribution = .rotate →
      ∃ t : TargetNo, s.chosenTargets i e = [t] ∧ e.targets.getLsbD t.val = true ∧
        ((¬ away t ∧
            ∀ u : TargetNo, e.targets.getLsbD u.val = true → ¬ away u → steps t ≤ steps u) ∨
          ((∀ u : TargetNo, e.targets.getLsbD u.val = true → away u) ∧
            ∀ u : TargetNo, e.targets.getLsbD u.val = true → steps t ≤ steps u)))

/-- The release that an UNMASK presents is placed with the latched origin and an absent payload, here as a new
record of one target (ArrivalsArePlaced and RepeatedArrivalsCoalesce give the other forms), or refused and lost
with a report that names the latched origin; the outcome is counted, and no NACK is sent. With a pace of 0 the UNMASK
stays current, so that the internal arrival of the refusal, or any other event, may come before its next index or its
response; a RELEASE with a pace goes on as an UNMASK of that pace does. When the last index has been taken and its
outcome reported, the UNMASK is answered with its three counts, a response that is discarded when its session has
ended (R61, R70 to R72; the pace is notes/assumptions/4.md). -/
def Obligations.ReleasesArePlacedOrLost : Prop :=
  ∀ (s : State) (u : UnmaskRun) (latch : Latch) (order : List TargetNo), s.loading = false →
    s.current = some (.unmask u) → u.presented = some latch →
    let i := latch.index
    let e := s.activeBank.entries[i]
    (∀ (reason : RefusalReason) (t : Option TargetNo) (value : Nat),
      RefusedAt s i 8 reason t value →
      exec (.release order 0) s =
        .next { s.report (refusalReport latch.origin reason t (some i) value) (latch.origin.source == 12) with
          current := some (.unmask { u with presented := none, refused := u.refused + 1 }) }) ∧
    (∀ (g : TargetNo) (slot : SlotNo), SlotsSound s → Admitted s i → s.chosenTargets i e = [g] →
      (e.mode = .queue ∨ s.waitingRecords g i e.mode = []) → 9 ≤ s.freeCount →
      slot ∉ s.records.map Record.slot → (∀ j < slot, j ∈ s.records.map Record.slot) →
      ∃ x : Record, x.slot = slot ∧ x.offer = none ∧ IsNewRecord x g i e latch.origin [] ∧
        exec (.release order 0) s =
          .next { ({ s with records := s.records ++ [x] } : State).notify g e.level with
            pointers := if e.distribution = .rotate then s.pointers.set i (some g) else s.pointers
            current := some (.unmask { u with presented := none, placed := u.placed + 1 }) }) ∧
    ∀ (pace : Nat) (b : State), exec (.release order 0) s = .next b →
      exec (.release order pace) s = exec (.unmaskRange pace) b ∧
      ∀ (t : State) (v : UnmaskRun), t.loading = false → t.current = some (.unmask v) → v.presented = none →
        v.last.val < v.next → exec (.unmaskRange (pace + 1)) t = .next (t.unmaskAnswered v)

/-! ## Target frames and timers -/

/-- A CLAIM of the current offer, not void, stops the timer, frees the record, pushes it as the top
in-service entry with the offer's tag and re-examines the target in READY; a REFUSE of it withdraws the
record and holds the target for the hold time (R80, R103, R107). That CREDIT follows
a new OFFER is the model's choice (notes/assumptions/11.md). -/
def Obligations.OffersAreAnswered : Prop :=
  ∀ (s : State) (t : TargetNo) (o : Offer) (r : Record) (m : OfferMark),
    s.currentOffer t = some (o, r, m) → m.void = false → r.target = t →
    (s.targetFrame t = some (.claim o.tag) →
      exec (.claimFrame t) s =
        .next (((({ s with records := s.records.filter fun x => x.slot ≠ r.slot } : State).withTarget t
            { s.targets[t].resting .ready with
              stack :=
                { vector := r.vector, level := r.level, index := r.index, origin := r.origin,
                  claimTag := o.tag } :: s.targets[t].stack }).reexamine t).finishTargetFrame t)) ∧
    (s.targetFrame t = some (.refuse o.tag) →
      exec (.refuseFrame t) s =
        .next (((s.withdraw r).withTarget t
          { s.targets[t].resting .held with
            holdTimer := some s.timers[t].holdTime }).finishTargetFrame t))

/-- A void record under offer is freed by the CLAIM of its tag, which is answered VOID, by the REFUSE of its
tag and by the claim timer, both answered by nothing; nothing is pushed, no hold starts, no fault is
reported, and the target is re-examined in READY (R104, R108, R111). That CREDIT
follows a new OFFER is the model's choice (notes/assumptions/11.md). -/
def Obligations.VoidOffersEnd : Prop :=
  ∀ (s : State) (t : TargetNo) (o : Offer) (r : Record) (m : OfferMark),
    s.currentOffer t = some (o, r, m) → m.void = true →
    let ready := fun b : State =>
      (({ b with records := s.records.filter fun x => x.slot ≠ r.slot } : State).withTarget t
        (s.targets[t].resting .ready)).reexamine t
    (s.targetFrame t = some (.claim o.tag) →
      exec (.claimFrame t) s =
        .next ((ready (s.queued (targetLink t) (.void o.tag))).finishTargetFrame t)) ∧
    (s.targetFrame t = some (.refuse o.tag) →
      exec (.refuseFrame t) s = .next ((ready s).finishTargetFrame t)) ∧
    (s.targets[t].claimTimer.isSome = true → exec (.claimTimerExpiry t) s = .next (ready s))

/-- A CLAIM or REFUSE of another tag in OFFERED is answered ERR(BAD_TAG) with the entry index of the record
under offer in the fault; one taken in READY, HELD, ASLEEP, WAKING or LOST is answered ERR(NO_OFFER); nothing
else changes (R105, R106). -/
def Obligations.WrongTagsAreRefused : Prop :=
  ∀ (s : State) (t : TargetNo) (tag : Byte) (c : Instr),
    (c = .claimFrame t ∧ s.targetFrame t = some (.claim tag) ∨
      c = .refuseFrame t ∧ s.targetFrame t = some (.refuse tag)) →
    (∀ (o : Offer) (r : Record) (m : OfferMark), s.currentOffer t = some (o, r, m) → tag ≠ o.tag →
      exec c s =
        .next (((s.queued (targetLink t) (.err .badTag tag)).report
          (protocolFault t (some r.index) 0x11 tag) false).finishTargetFrame t)) ∧
    (s.targets[t].state ≠ .offered →
      exec c s =
        .next (((s.queued (targetLink t) (.err .noOffer tag)).report
          (protocolFault t none 0x10 tag) false).finishTargetFrame t))

/-- A DONE that names the claim tag of the top entry pops it and re-examines the target; one that names the
tag of a deeper entry only is answered ERR(NOT_TOP), its fault with the entry index of the uppermost such
entry; one that no entry holds is answered ERR(NOT_IN_SERVICE) (R82 to R85). That CREDIT follows a
new OFFER is the model's choice (notes/assumptions/11.md). -/
def Obligations.DoneEndsTopService : Prop :=
  ∀ (s : State) (t : TargetNo) (tag : Byte), s.targetFrame t = some (.done tag) →
    (∀ (top : InService) (deeper : List InService), s.targets[t].stack = top :: deeper →
      top.claimTag = tag →
      exec (.doneFrame t) s =
        .next (((s.withTarget t { s.targets[t] with stack := deeper }).reexamine t).finishTargetFrame
          t)) ∧
    (∀ (above : List InService) (e : InService) (below : List InService),
      s.targets[t].stack = above ++ e :: below → above ≠ [] → (∀ x ∈ above, x.claimTag ≠ tag) →
      e.claimTag = tag →
      exec (.doneFrame t) s =
        .next (((s.queued (targetLink t) (.err .notTop tag)).report
          (protocolFault t (some e.index) 0x14 tag) false).finishTargetFrame t)) ∧
    ((∀ x ∈ s.targets[t].stack, x.claimTag ≠ tag) →
      exec (.doneFrame t) s =
        .next (((s.queued (targetLink t) (.err .notInService tag)).report
          (protocolFault t none 0x15 tag) false).finishTargetFrame t))

/-- READY is ignored in READY and OFFERED and puts every other target in READY, re-examined; LEVEL 0 to 8
sets the threshold and re-examines, 9 to 255 is answered ERR(BAD_VALUE); SLEEP 8 to 255 is answered
ERR(BAD_VALUE), 0 to 7 in OFFERED ERR(BUSY_OFFER) with no fault, and else puts the target to sleep, waking
it at once with the most urgent level held at or below the wake level (R87, R88, R109, R110, R114 to R116). That
CREDIT follows a new OFFER or WAKE is the model's choice (notes/assumptions/11.md). -/
def Obligations.ReadyLevelAndSleepAreTaken : Prop :=
  ∀ (s : State) (t : TargetNo),
    (s.targetFrame t = some .ready →
      exec (.readyFrame t) s =
        .next ((if s.targets[t].state = .ready ∨ s.targets[t].state = .offered then s
          else (s.withTarget t (s.targets[t].resting .ready)).reexamine t).finishTargetFrame t)) ∧
    (∀ value : Byte, s.targetFrame t = some (.level value) →
      (∀ v : Fin 9, v.val = value.toNat →
        exec (.levelFrame t) s =
          .next (((s.withTarget t { s.targets[t] with threshold := v }).reexamine t).finishTargetFrame
            t)) ∧
      (9 ≤ value.toNat →
        exec (.levelFrame t) s =
          .next (((s.queued (targetLink t) (.err .badValue value)).report
            (protocolFault t none 0x13 value) false).finishTargetFrame t))) ∧
    ∀ value : Byte, s.targetFrame t = some (.sleep value) →
      (8 ≤ value.toNat →
        exec (.sleepFrame t) s =
          .next (((s.queued (targetLink t) (.err .badValue value)).report
            (protocolFault t none 0x13 value) false).finishTargetFrame t)) ∧
      (value.toNat < 8 → s.targets[t].state = .offered →
        exec (.sleepFrame t) s =
          .next ((s.queued (targetLink t) (.err .busyOffer value)).finishTargetFrame t)) ∧
      ∀ w : Level, w.val = value.toNat → s.targets[t].state ≠ .offered →
        let asleep := s.withTarget t { s.targets[t].resting .asleep with wakeLevel := w }
        ((∀ r ∈ s.records, r.target = t → w < r.level) →
          exec (.sleepFrame t) s = .next (asleep.finishTargetFrame t)) ∧
        ∀ r ∈ s.records, r.target = t → r.level ≤ w →
          (∀ x ∈ s.records, x.target = t → r.level ≤ x.level) →
          exec (.sleepFrame t) s =
            .next (((asleep.withTarget t
              { s.targets[t].resting .waking with
                wakeLevel := w
                claimTimer := some s.timers[t].claimTimeout
                retriesLeft := some s.timers[t].retries
                wakeSent := some r.level }).queued (targetLink t) (.wake r.level)).finishTargetFrame t)

/-- The claim timer of an offer that is not void sends the same OFFER again with one retry fewer, or with
none left withdraws the record, puts the target in LOST and reports TARGET_LOST with the tag; in WAKING it
sends the same WAKE again, or reports TARGET_LOST with 256 plus the wake level; the hold timer ends HELD in
READY, re-examined (R109, R111, R112, R117). -/
def Obligations.TimersExpire : Prop :=
  ∀ (s : State) (t : TargetNo), s.isUp (targetLink t) = true →
    let lost := fun (i : Option Index) (detail : Nat) =>
      ({ kind := .targetLost
         link := some (targetLink t)
         target := some t
         index := i
         event := none
         detail := BitVec.ofNat 16 detail } : FaultRecord)
    (∀ (o : Offer) (r : Record) (m : OfferMark) (n : Fin 8), s.currentOffer t = some (o, r, m) →
      m.void = false → r.target = t → s.targets[t].claimTimer.isSome = true →
      s.targets[t].retriesLeft = some n →
      (n ≠ 0 →
        exec (.claimTimerExpiry t) s =
          .next ((s.withTarget t
            { s.targets[t] with
              claimTimer := some s.timers[t].claimTimeout, retriesLeft := some (n - 1) }).queued
            (targetLink t)
            (.offer
              { tag := o.tag
                vector := r.vector
                level := r.level
                count := if r.mode = .count then r.count.getD 0 else 1
                origin := r.origin
                index := r.index
                payload := r.payload }))) ∧
      (n = 0 →
        exec (.claimTimerExpiry t) s =
          .next (((s.withdraw r).withTarget t (s.targets[t].resting .lost)).report
            (lost (some r.index) o.tag.toNat) false))) ∧
    (∀ (n : Fin 8) (level : Level), s.targets[t].state = .waking →
      s.targets[t].claimTimer.isSome = true → s.targets[t].retriesLeft = some n →
      s.targets[t].wakeSent = some level →
      (n ≠ 0 →
        exec (.claimTimerExpiryWaking t) s =
          .next ((s.withTarget t
            { s.targets[t] with
              claimTimer := some s.timers[t].claimTimeout, retriesLeft := some (n - 1) }).queued
            (targetLink t) (.wake level))) ∧
      (n = 0 →
        exec (.claimTimerExpiryWaking t) s =
          .next ((s.withTarget t (s.targets[t].resting .lost)).report
            (lost none (256 + s.targets[t].wakeLevel.val)) false))) ∧
    (s.targets[t].state = .held → s.targets[t].holdTimer.isSome = true →
      exec (.holdTimerExpiry t) s =
        .next ((s.withTarget t (s.targets[t].resting .ready)).reexamine t))

/-! ## Requests -/

/-- A REQUEST joins the tail of the queue while it holds fewer than 8 requests and fewer than 2 of the link,
and is otherwise answered FULL; either way the frame is finished (R151, R167). -/
def Obligations.RequestsAreAdmittedOrFull : Prop :=
  ∀ (s : State) (l : LinkNo) (sequence operation : Byte) (operands : List Byte),
    s.waiting l InFrame.isRequest = some (.request sequence operation operands) →
    let left : Link :=
      { s.links[l] with ingress := s.links[l].ingress.eraseP InFrame.isRequest }
    (s.queue.length < 8 → (s.queue.filter fun r => r.link = l).length < 2 →
      exec (.requestAdmission l) s =
        .next { s.withLink l left.finished with
          queue := s.queue ++
            [{ link := l, session := s.links[l].session, sequence := sequence, operation := operation,
               operands := operands }] }) ∧
    ((8 ≤ s.queue.length ∨ 2 ≤ (s.queue.filter fun r => r.link = l).length) →
      exec (.requestAdmission l) s =
        .next (s.withLink l
          ({ left with
            transmit := left.transmit ++
              [{ frame := .response sequence .full [], thenReset := false }] } : Link).finished))

/-- A request of a link without the right its operation needs is answered DENIED, one whose code names no
operation UNKNOWN_OP, one whose operands have a length that does not fit BAD_LENGTH, and one whose operands name
an index beyond its range or a value that is not legal BAD_INDEX or BAD_VALUE, by the order of tests of its
operation; each leaves the queue and changes nothing else (R7, R168, R200 and the rules of the operations). -/
def Obligations.RequestsAreTurnedAway : Prop :=
  (∀ (op : Operation) (pace : Nat) (s : State) (r : Request), Asked s op r →
    s.links[r.link].record.rights.has op.right = false →
    exec (op.command pace) s = .next (s.responded r .denied [])) ∧
  (∀ (s : State) (r : Request), s.nextRequest = some r → (∀ op : Operation, op.code ≠ r.operation) →
    s.isUp r.link = true → s.links[r.link].session = r.session →
    exec .unknownOp s = .next (s.responded r .unknownOp [])) ∧
  ∀ (op : Operation) (pace : Nat) (s : State) (r : Request)
    (operands : List Byte), Granted s op r operands →
    (op.fits operands.length = false →
      exec (op.command pace) s = .next (s.responded r .badLength [])) ∧
    ∀ status : Status, s.badOperands op operands = some status →
      exec (op.command pace) s = .next (s.responded r status [])

/-- FREEZE is answered BUSY while a copy phase or a SAVE runs, and else sets the flag; while it is set
WRITE_ENTRY, WRITE_WINDOW, COMMIT, SET_LINK and SAVE are answered FROZEN; while a copy phase runs WRITE_ENTRY,
WRITE_WINDOW, COMMIT and SAVE are answered BUSY, and so are READ_ENTRY and READ_WINDOW with selector STAGING,
frozen or not; and while a SAVE runs COMMIT and SAVE are (R7, R10, R11, R17, R174, R180, R188, R193). -/
def Obligations.FreezeAndBusyBarRequests : Prop :=
  ∀ (op : Operation) (pace : Nat) (s : State) (r : Request)
    (operands : List Byte), Granted s op r operands → op.fits operands.length = true →
    (op = .freeze →
      exec .freeze s =
        .next (if s.copyState = .copying ∨ s.saving.isSome = true then s.responded r .busy []
          else ({ s with frozen := true } : State).responded r .ok [])) ∧
    (op ∈ [Operation.writeEntry, .writeWindow, .commit, .setLink, .save] → s.frozen = true →
      exec (op.command pace) s = .next (s.responded r .frozen [])) ∧
    (op ∈ [Operation.writeEntry, .writeWindow, .commit, .save] → s.frozen = false →
      s.copyState = .copying → exec (op.command pace) s = .next (s.responded r .busy [])) ∧
    (op ∈ [Operation.readEntry, .readWindow] → operands.head? = some 0x01 → s.copyState = .copying →
      exec (op.command pace) s = .next (s.responded r .busy [])) ∧
    (op ∈ [Operation.commit, .save] → s.frozen = false → s.copyState = .idle → s.saving.isSome = true →
      exec (op.command pace) s = .next (s.responded r .busy []))

/-- WRITE_ENTRY puts 1 to 4 legal entries in the staging bank from its first index on, and WRITE_WINDOW a
legal window, with the bank's name in the response and the active bank untouched; one illegal entry or
window, or an index beyond the table, writes nothing (R3, R4, R8, R9). -/
def Obligations.TableWritesReachStagingBank : Prop :=
  ∀ (s : State) (r : Request), s.frozen = false → s.copyState = .idle →
    let name : Byte := if s.active = .a then 0x01 else 0x00
    (∀ (first : Half) (codes : List Word), 1 ≤ codes.length → codes.length ≤ 4 →
      Granted s .writeEntry r (bytesOf 2 first ++ codes.flatMap (bytesOf 4)) →
      (512 < first.toNat + codes.length → exec .writeEntry s = .next (s.responded r .badIndex [])) ∧
      (first.toNat + codes.length ≤ 512 → (∃ c ∈ codes, Entry.ofCode c = none) →
        exec .writeEntry s = .next (s.responded r .badValue [])) ∧
      (first.toNat + codes.length ≤ 512 → (∀ c ∈ codes, (Entry.ofCode c).isSome = true) →
        ∃ b : Bank, b.windows = s.stagingBank.windows ∧
          (∀ i : Index, some b.entries[i] =
            if first.toNat ≤ i.val ∧ i.val < first.toNat + codes.length then
              (codes[i.val - first.toNat]?).bind Entry.ofCode
            else some s.stagingBank.entries[i]) ∧
          exec .writeEntry s = .next ((s.setBank s.active.other b).responded r .ok [name]))) ∧
    ∀ (source : Byte) (code : Half), Granted s .writeWindow r (source :: bytesOf 2 code) →
      (13 ≤ source.toNat → exec .writeWindow s = .next (s.responded r .badIndex [])) ∧
      (source.toNat < 13 → Window.ofCode code = none →
        exec .writeWindow s = .next (s.responded r .badValue [])) ∧
      ∀ (n : SourceNo) (w : Window), n.val = source.toNat → Window.ofCode code = some w →
        exec .writeWindow s =
          .next ((s.setBank s.active.other
            { s.stagingBank with windows := s.stagingBank.windows.set n w }).responded r .ok [name])

/-- COMMIT exchanges the roles of the banks and touches the contents of neither: COPY starts the copy
phase, KEEP does not, another choice is answered BAD_VALUE; the end of the copy phase makes the staging bank
equal to the active one, returns the copy state to IDLE and raises BANK_READY with the bank now active (R13
to R16). That the staging bank is rewritten at that end alone, and not entry by entry before it, is the model's
choice (notes/assumptions/21.md). -/
def Obligations.CommitSwitchesBanks : Prop :=
  (∀ (s : State) (r : Request) (choice : Byte), Granted s .commit r [choice] → s.frozen = false →
    s.copyState = .idle → s.saving = none →
    let now : BankName := if s.active = .a then .b else .a
    let name : Byte := if s.active = .a then 0x01 else 0x00
    (choice = 0x00 →
      exec .commit s =
        .next (({ s with active := now, copyState := .copying } : State).responded r .ok [name])) ∧
    (choice = 0x01 →
      exec .commit s = .next (({ s with active := now } : State).responded r .ok [name])) ∧
    (choice ≠ 0x00 → choice ≠ 0x01 → exec .commit s = .next (s.responded r .badValue []))) ∧
  ∀ s : State, s.copyState = .copying →
    let b := if s.active = .a then s.bankA else s.bankB
    exec .copyPhaseEnd s =
      .next (({ s with copyState := .idle, bankA := b, bankB := b } : State).raiseEvent .bankReady
        (0xFFFF0000 + if s.active = .a then 0 else 1))

/-- The eight read requests, with operands in range and the staging bank not being rewritten, are answered
OK and change nothing but the queue, the response and the model's count of responses with unnamed bits
(R10, R11, R38, R74, R136, R172, R173, R176). The bits that
chapter 11 does not name are free (notes/assumptions/1.md). -/
def Obligations.ReadsChangeNothing : Prop :=
  ∀ (s : State) (op : Operation) (r : Request) (operands : List Byte), Granted s op r operands →
    (match op, operands with
      | .readStatus, [] => True
      | .readLink, [l] => l.toNat < 16
      | .readTarget, [t, part] => t.toNat < 4 ∧ part.toNat < 3
      | .readEntry, [selector, hi, lo, count] =>
        (selector = 0x00 ∨ selector = 0x01 ∧ s.copyState = .idle) ∧ 1 ≤ count.toNat ∧
          count.toNat ≤ 4 ∧ (hi ++ lo : Half).toNat + count.toNat ≤ 512
      | .readWindow, [selector, n] =>
        (selector = 0x00 ∨ selector = 0x01 ∧ s.copyState = .idle) ∧ n.toNat < 13
      | .readPending, [t, level, hi, lo, count] =>
        t.toNat < 4 ∧ level.toNat < 8 ∧ (hi ++ lo : Half).toNat < 384 ∧ 1 ≤ count.toNat ∧
          count.toNat ≤ 4
      | .readMask, [hi, lo, count] =>
        1 ≤ count.toNat ∧ count.toNat ≤ 64 ∧ (hi ++ lo : Half).toNat + count.toNat ≤ 512
      | .readFaults, [start, count] => start.toNat < 8 ∧ 1 ≤ count.toNat ∧ count.toNat ≤ 4
      | _, _ => False) →
    ∃ results draws, exec (op.command 0) s =
      .next (({ s with draws := draws } : State).responded r .ok results)

/-- What READ_STATUS, READ_LINK, READ_ENTRY, READ_WINDOW, READ_MASK and READ_FAULTS answer, byte by byte where
chapter 11 names the byte (11.4, 11.5). A bit that chapter 11 does not name is free (notes/assumptions/1.md). -/
def Obligations.ReadResultsShowState : Prop :=
  ∀ (s : State) (r : Request),
    (Granted s .readStatus r [] →
      ∃ flags : Byte, (flags.getLsbD 0 = (s.active == .b)) ∧
        (flags.getLsbD 1 = (s.copyState == .copying)) ∧ (flags.getLsbD 2 = s.saving.isSome) ∧
        (flags.getLsbD 3 = s.frozen) ∧
        exec .readStatus s =
          .next (({ s with draws := s.draws + 1 } : State).responded r .ok
            ([0x2E, 0x03, flags] ++ bytesOf 2 (BitVec.ofNat 16 s.freeCount) ++
              [BitVec.ofNat 8 s.faults.length, BitVec.ofNat 8 s.lostFaults] ++
              (match s.loaded with
                | some im => BitVec.ofNat 8 im.slot.val :: bytesOf 4 im.generation
                | none => [0xFF, 0, 0, 0, 0])))) ∧
    (∀ l : LinkNo, Granted s .readLink r [BitVec.ofNat 8 l.val] →
      exec .readLink s =
        .next (s.responded r .ok
          ([BitVec.ofNat 8 l.val,
              (match s.links[l].state with
                | .down => 0 | .training => 1 | .up => 2 | .faulted => 3),
              BitVec.ofNat 8 s.links[l].errors, s.links[l].grant] ++
            bytesOf 3 s.links[l].record.code ++
            (match linkTarget l with
              | some t => bytesOf 3 s.timers[t].code
              | none => [])))) ∧
    (∀ (first : Half) (count : Byte) (staging : Bool),
      Granted s .readEntry r ((if staging then 0x01 else 0x00) :: (bytesOf 2 first ++ [count])) →
      (staging = true → s.copyState = .idle) → 1 ≤ count.toNat → count.toNat ≤ 4 →
      first.toNat + count.toNat ≤ 512 →
      let bank := if staging then s.stagingBank else s.activeBank
      exec .readEntry s =
        .next (s.responded r .ok
          ((if (s.active = .b) = (staging = false) then (0x01 : Byte) else 0x00) ::
            ((List.finRange 512).filter fun i =>
              first.toNat ≤ i.val && i.val < first.toNat + count.toNat).flatMap
              fun i => bytesOf 4 bank.entries[i].code))) ∧
    (∀ (n : SourceNo) (staging : Bool),
      Granted s .readWindow r [if staging then 0x01 else 0x00, BitVec.ofNat 8 n.val] →
      (staging = true → s.copyState = .idle) →
      let bank := if staging then s.stagingBank else s.activeBank
      exec .readWindow s =
        .next (s.responded r .ok
          ((if (s.active = .b) = (staging = false) then (0x01 : Byte) else 0x00) ::
            BitVec.ofNat 8 n.val :: bytesOf 2 bank.windows[n].code))) ∧
    (∀ (first : Half) (count : Byte), Granted s .readMask r (bytesOf 2 first ++ [count]) →
      1 ≤ count.toNat → count.toNat ≤ 64 → first.toNat + count.toNat ≤ 512 →
      ∃ results : List Byte,
        exec .readMask s = .next (s.responded r .ok (bytesOf 2 first ++ count :: results)) ∧
        results.length = (2 * count.toNat + 7) / 8 ∧
        (∀ (k : Nat) (i : Index), k < count.toNat → i.val = first.toNat + k →
          ∃ b : Byte, results[k / 4]? = some b ∧ b.getLsbD (7 - 2 * (k % 4)) = s.maskMap[i] ∧
            b.getLsbD (6 - 2 * (k % 4)) = s.latches[i].isSome) ∧
        ∀ (k : Nat) (b : Byte), count.toNat ≤ k → results[k / 4]? = some b →
          b.getLsbD (7 - 2 * (k % 4)) = false ∧ b.getLsbD (6 - 2 * (k % 4)) = false) ∧
    (∀ start count : Byte, Granted s .readFaults r [start, count] → start.toNat < 8 →
      1 ≤ count.toNat → count.toNat ≤ 4 → s.faults.length ≤ 8 →
      ∃ (results : List Byte) (draws : Nat),
        exec .readFaults s =
          .next (({ s with draws := draws } : State).responded r .ok
            ([BitVec.ofNat 8 s.faults.length, BitVec.ofNat 8 s.lostFaults] ++ results)) ∧
        results.length = 9 * min count.toNat (s.faults.length - start.toNat) ∧
        ∀ (k : Nat) (f : FaultRecord), k < count.toNat → s.faults[start.toNat + k]? = some f →
          (∃ b, results[9 * k]? = some b ∧ b.extractLsb' 5 3 = BitVec.ofNat 3 (start.toNat + k) ∧
            b.extractLsb' 0 4 = BitVec.ofNat 4 f.kind.number) ∧
          (∃ b, results[9 * k + 1]? = some b ∧ b.getLsbD 0 = f.link.isSome ∧
            b.getLsbD 1 = f.target.isSome ∧ b.getLsbD 2 = f.index.isSome ∧
            b.getLsbD 3 = f.event.isSome ∧ b.extractLsb' 4 4 = 0) ∧
          (results.drop (9 * k + 2)).take 7 =
            [BitVec.ofNat 8 (match f.link with | some l => l.val | none => 0),
              BitVec.ofNat 8 (match f.target with | some t => t.val | none => 0)] ++
            bytesOf 2 (BitVec.ofNat 16 (match f.index with | some i => i.val | none => 0)) ++
            [f.event.getD 0] ++ bytesOf 2 f.detail)

/-- What READ_TARGET and READ_PENDING answer, byte by byte where chapter 11 names the byte (R38, R176, R201,
11.5): the state of a target with its offer, its depth and the lengths of its eight lists; the entries at
positions 0 to 3 or 4 to 7 from the bottom of its stack; and the records of a list from a position on, as many
as the count, the list and the 46 bytes allow. A bit that chapter 11 does not name is free
(notes/assumptions/1.md). -/
def Obligations.TargetAndPoolResultsShowState : Prop :=
  ∀ (s : State) (r : Request) (t : TargetNo),
    let g := s.targets[t]
    let answers := fun (c : Instr) (results : List Byte) =>
      ∃ draws : Nat, exec c s = .next (({ s with draws := draws } : State).responded r .ok results)
    let list := fun l : Level => s.records.filter fun x => x.target == t && x.level == l
    (Granted s .readTarget r [BitVec.ofNat 8 t.val, 0x00] →
      ∃ offer : Byte,
        answers .readTarget
          ([BitVec.ofNat 8 t.val,
              (match g.state with
                | .offline => 0 | .ready => 1 | .offered => 2 | .held => 3 | .asleep => 4 | .waking => 5
                | .lost => 6),
              BitVec.ofNat 8 g.threshold.val, BitVec.ofNat 8 g.wakeLevel.val, g.tagCounter, offer] ++
            (match g.offer with
              | some o => o.tag :: bytesOf 2 (BitVec.ofNat 16 o.slot.val)
              | none => [0, 0, 0]) ++
            BitVec.ofNat 8 g.stack.length ::
              (List.finRange 8).flatMap fun l => bytesOf 2 (BitVec.ofNat 16 (list l).length)) ∧
        offer.getLsbD 7 = g.offer.isSome ∧ (g.offer = none → offer.getLsbD 6 = false) ∧
        (∀ o x m, s.currentOffer t = some (o, x, m) → offer.getLsbD 6 = m.void) ∧
        offer.extractLsb' 0 4 =
          (match g.retriesLeft with | some n => BitVec.ofNat 4 n.val | none => 0xF)) ∧
    (∀ high : Bool, Granted s .readTarget r [BitVec.ofNat 8 t.val, if high then 0x02 else 0x01] →
      let first := if high then 4 else 0
      ∃ entries : List Byte,
        answers .readTarget ([BitVec.ofNat 8 t.val, BitVec.ofNat 8 g.stack.length] ++ entries) ∧
        entries.length = 7 * min 4 (g.stack.length - first) ∧
        ∀ (k : Nat) (e : InService), k < 4 → g.stack.reverse[first + k]? = some e →
          ∃ b : Byte, (entries.drop (7 * k)).take 7 =
              [b, e.vector] ++ bytesOf 2 (BitVec.ofNat 16 e.index.val) ++
                [BitVec.ofNat 8 e.origin.source.val, e.origin.event, e.claimTag] ∧
            b.extractLsb' 4 3 = BitVec.ofNat 3 (first + k) ∧ b.extractLsb' 0 3 = BitVec.ofNat 3 e.level.val) ∧
    ∀ (l : Level) (start : Half) (count : Byte),
      Granted s .readPending r (BitVec.ofNat 8 t.val :: BitVec.ofNat 8 l.val :: (bytesOf 2 start ++ [count])) →
      start.toNat ≤ 383 → 1 ≤ count.toNat → count.toNat ≤ 4 → (∀ x ∈ s.records, RecordSound x) →
      let held := (list l).drop start.toNat
      let size := fun n : Nat => ((held.take n).map fun x => 9 + 4 * x.payload.length).sum
      ∃ (n : Nat) (entries : List Byte),
        answers .readPending
          ([BitVec.ofNat 8 t.val, BitVec.ofNat 8 l.val] ++ bytesOf 2 (BitVec.ofNat 16 (list l).length) ++
            [BitVec.ofNat 8 n] ++ entries) ∧
        n ≤ count.toNat ∧ n ≤ held.length ∧ entries.length = size n ∧ size n ≤ 41 ∧
        (n = count.toNat ∨ n = held.length ∨ 41 < size (n + 1)) ∧
        ∀ (k : Nat) (x : Record), k < n → held[k]? = some x →
          ∃ a b c : Half, (entries.drop (size k)).take (9 + 4 * x.payload.length) =
              bytesOf 2 a ++ bytesOf 2 b ++ bytesOf 2 c ++
                [x.vector, x.origin.event, match x.offer with | some m => m.tag | none => 0] ++
                x.payload.flatMap (bytesOf 4) ∧
            a.extractLsb' 14 2 = (match x.mode with | .merge => 0 | .count => 1 | .queue => 2) ∧
            a.getLsbD 13 = x.offer.isSome ∧
            a.getLsbD 12 = (match x.offer with | some m => m.void | none => false) ∧
            a.extractLsb' 9 2 = BitVec.ofNat 2 x.payload.length ∧
            a.extractLsb' 0 9 = BitVec.ofNat 9 (start.toNat + k) ∧
            b.extractLsb' 12 4 = BitVec.ofNat 4 (x.count.getD 0) ∧
            b.extractLsb' 0 9 = BitVec.ofNat 9 x.slot.val ∧
            c.extractLsb' 12 4 = BitVec.ofNat 4 x.origin.source.val ∧
            c.extractLsb' 0 9 = BitVec.ofNat 9 x.index.val

/-- SET_LINK writes every field the link has and answers the link with its record; for links 0 to 11 the
last three operands are ignored (R174, R200). RESET_LINK of another link ends its session or its quiet time
and puts it in TRAINING anew, calling at once; of its own link the response leaves first (R159, R177). That the
response to a RESET_LINK of its own link carries UP and the reset waits for it to leave is
notes/assumptions/15.md. The session end takes a target frame in progress first (R123, R147,
notes/assumptions/22.md). -/
def Obligations.LinkRequestsActOnLinks : Prop :=
  (∀ (s : State) (r : Request) (l : LinkNo) (record : LinkRecord) (timer : TimerRecord)
    (rest : List Byte), s.frozen = false → record.legal = true → rest.length = 3 →
    (12 ≤ l.val → rest = bytesOf 3 timer.code ∧ timer.legal = true) →
    Granted s .setLink r (BitVec.ofNat 8 l.val :: (bytesOf 3 record.code ++ rest)) →
    exec .setLink s =
      .next (({ s.withLink l { s.links[l] with record := record } with
          timers :=
            match linkTarget l with
            | some t => s.timers.set t timer
            | none => s.timers } : State).responded r .ok
        (BitVec.ofNat 8 l.val ::
          (bytesOf 3 record.code ++ if 12 ≤ l.val then bytesOf 3 timer.code else [])))) ∧
  ∀ (s : State) (r : Request) (l : LinkNo), Granted s .resetLink r [BitVec.ofNat 8 l.val] →
    (l = r.link →
      exec .resetLink s =
        .next (({ s with queue := s.queue.tail } : State).withLink l
          { s.links[l] with
            transmit := s.links[l].transmit ++
              [{ frame := .response r.sequence .ok [BitVec.ofNat 8 l.val, 2], thenReset := true }] })) ∧
    (l ≠ r.link → s.links[l].state = .training ∨ s.links[l].state = .faulted →
      exec .resetLink s =
        .next ((s.withLink l (s.links[l].calling l)).responded r .ok
          [BitVec.ofNat 8 l.val, if s.links[l].state = .training then 1 else 3])) ∧
    (l ≠ r.link → s.links[l].state = .up → LinksSound s → DeliverySound s →
      let b := ({ s with queue := s.queue.tail } : State).sessionEnd l
      exec .resetLink s =
        .next ((b.withLink l (b.links[l].calling l)).queued r.link
          (.response r.sequence .ok [BitVec.ofNat 8 l.val, 2])))

/-- RESTART empties the queue as it is taken. Then each of its handlings is done once, one in a step, in an
order that is free (notes/assumptions/19.md), and does its part alone. The response is discarded when its
session has ended; that it is handed over in the very step of the last handling, with nothing between, is the
model's choice (notes/assumptions/9.md). With nothing between its steps, RESTART frees every record,
sends VOID for every current offer, empties every stack, sets every threshold to 8, puts each target in READY or
OFFLINE by its link, removes every latch and pointer, keeps tag counters and wake levels, and changes nothing
else but the model's count of free choices; on each target link VOID stands before the response (R40, R63, R75,
R93, R126, R178, R179). -/
def Obligations.RestartClearsDelivery : Prop :=
  (∀ (s : State) (r : Request), Granted s .restart r [] →
    exec .restart s =
      .next { s with
        queue := []
        current := some (.restart { request := r, left := [.delivery, .latches, .pointers] }) }) ∧
  (∀ (s : State) (run : RestartRun), s.loading = false → s.current = some (.restart run) →
    run.left ≠ [] → DeliverySound s → LinksSound s →
    ∃ (p : RestartPart) (b : State), p ∈ run.left ∧ RestartHandled s b p ∧
      let c : State := { b with draws := s.draws + 1 }
      exec .restart s =
        .next (if run.left.erase p = [] then
            ({ c with current := none } : State).answeredIn run.request.link run.request.session
              (.response run.request.sequence .ok [])
          else { c with current := some (.restart { run with left := run.left.erase p }) })) ∧
  ∀ (s : State) (r : Request), Granted s .restart r [] → DeliverySound s → LinksSound s →
    let t := s.repeated .restart 4
    t.records = [] ∧ t.freeCount = 384 ∧ t.queue = [] ∧
      (∀ i : Index, t.pointers[i] = none ∧ t.latches[i] = none) ∧
      (∀ g : TargetNo, t.targets[g] =
        { s.targets[g].resting (if s.links[targetLink g].state = .up then .ready else .offline) with
          stack := [], threshold := 8 }) ∧
      (∀ l : LinkNo, t.links[l] =
        { s.links[l] with
          transmit := s.links[l].transmit ++
            (match linkTarget l with
              | some g =>
                match s.targets[g].offer with
                | some o => [{ frame := .void o.tag, thenReset := false }]
                | none => []
              | none => []) ++
            if l = r.link then [{ frame := .response r.sequence .ok [], thenReset := false }]
            else [] }) ∧
      t = { s with
        records := [], queue := [], pointers := t.pointers, latches := t.latches, targets := t.targets,
        links := t.links, draws := s.draws + 3 }

/-- CANCEL frees every record of the pair that is not under offer, marks one under offer void, and answers
how many it affected; when there is none it answers NOT_PENDING and changes nothing (R36). It is taken so
as the engine's next request, and between the releases of an UNMASK of another link (R73,
notes/assumptions/18.md). -/
def Obligations.CancelRemovesPending : Prop :=
  ∀ (s : State) (r : Request) (target : Byte) (index : Half),
    Granted s .cancel r (target :: bytesOf 2 index) →
    (4 ≤ target.toNat ∨ 512 ≤ index.toNat → exec .cancel s = .next (s.responded r .badIndex [])) ∧
    ∀ (t : TargetNo) (i : Index), t.val = target.toNat → i.val = index.toNat →
      let pair := fun x : Record => x.target = t ∧ x.index = i
      ((∀ x ∈ s.records, pair x → ∃ m, x.offer = some m ∧ m.void = true) →
        exec .cancel s = .next (s.responded r .notPending [])) ∧
      ((∃ x ∈ s.records, pair x ∧ ∀ m, x.offer = some m → m.void = false) →
        ∃ (records : List Record) (n : Nat),
          exec .cancel s =
            .next (({ s with records := records } : State).responded r .ok
              (bytesOf 2 (BitVec.ofNat 16 n))) ∧
          (∀ y, y ∈ records ↔
            ∃ x ∈ s.records, (¬ pair x ∧ y = x) ∨
              (pair x ∧ ∃ m, x.offer = some m ∧
                y = { x with offer := some { m with void := true } })) ∧
          (records.map Record.slot).Sublist (s.records.map Record.slot) ∧
          n = (s.records.filter fun x => decide (pair x) &&
            (match x.offer with | none => true | some m => !m.void)).length)

/-- MASK and UNMASK take the indexes of their range one at a time, in increasing order, and other events may
come between two of them. MASK becomes current as it is taken; then each step sets one flag, and after the last
it is answered OK with the number that were clear. That this response is handed over in the very step of the
last flag, with nothing between, is the model's choice (notes/assumptions/9.md). UNMASK clears each flag, and
how many acts a step does is the operand `pace` (notes/assumptions/4.md); at a latch it removes it and presents
its release, and does no further act in the step; when the last index is taken and no release is out, its next
act hands over the response OK with its three counts. A step of pace 0 takes the request alone, one of pace 1
one index or the response, and the acts of two steps add up; a pace that suffices takes the whole range and
answers, or takes all of the range up to a latch. A first index above the last, or one of the two above 511, is
answered BAD_INDEX (R68 to R70). -/
def Obligations.MaskRangesAreSetAndCleared : Prop :=
  (∀ (s : State) (r : Request) (first last : Half) (pace : Nat),
    512 ≤ first.toNat ∨ 512 ≤ last.toNat ∨ last < first →
    (Granted s .mask r (bytesOf 2 first ++ bytesOf 2 last) →
      exec .maskRange s = .next (s.responded r .badIndex [])) ∧
    (Granted s .unmask r (bytesOf 2 first ++ bytesOf 2 last) →
      exec (.unmaskRange pace) s = .next (s.responded r .badIndex []))) ∧
  (∀ (s : State) (r : Request) (first last : Index),
    let operands := bytesOf 2 (BitVec.ofNat 16 first.val) ++ bytesOf 2 (BitVec.ofNat 16 last.val)
    first ≤ last →
    (Granted s .mask r operands →
      exec .maskRange s =
        .next { s with
          queue := s.queue.tail
          current := some (.mask { request := r, next := first, last := last, newly := 0 }) } ∧
      ∃ flags : Vector Bool 512,
        (∀ i : Index, flags[i] = if first ≤ i ∧ i ≤ last then true else s.maskMap[i]) ∧
        s.repeated .maskRange (last.val - first.val + 2) =
          ({ s with maskMap := flags } : State).responded r .ok
            (bytesOf 2 (BitVec.ofNat 16 ((List.finRange 512).filter fun i =>
              decide (first ≤ i) && decide (i ≤ last) && !s.maskMap[i]).length))) ∧
    (Granted s .unmask r operands →
      exec (.unmaskRange 0) s =
        .next { s with
          queue := s.queue.tail
          current := some (.unmask
            { request := r, next := first.val, last := last, cleared := 0, placed := 0, refused := 0,
              presented := none }) } ∧
      ∀ pace : Nat,
      (last.val - first.val + 1 < pace → (∀ i : Index, first ≤ i → i ≤ last → s.latches[i] = none) →
        ∃ flags : Vector Bool 512,
          (∀ i : Index, flags[i] = if first ≤ i ∧ i ≤ last then false else s.maskMap[i]) ∧
          exec (.unmaskRange pace) s =
            .next (({ s with maskMap := flags } : State).responded r .ok
              (bytesOf 2 (BitVec.ofNat 16 ((List.finRange 512).filter fun i =>
                decide (first ≤ i) && decide (i ≤ last) && s.maskMap[i]).length) ++ [0, 0, 0, 0]))) ∧
      ∀ (k : Index) (o : Origin), first ≤ k → k ≤ last → k.val - first.val < pace → s.latches[k] = some o →
        (∀ i : Index, first ≤ i → i < k → s.latches[i] = none) →
        ∃ flags : Vector Bool 512,
          (∀ i : Index, flags[i] = if first ≤ i ∧ i ≤ k then false else s.maskMap[i]) ∧
          exec (.unmaskRange pace) s =
            .next { s with
              queue := s.queue.tail
              maskMap := flags
              latches := s.latches.set k none
              current := some (.unmask
                { request := r
                  next := k.val + 1
                  last := last
                  cleared := ((List.finRange 512).filter fun i =>
                    decide (first ≤ i) && decide (i ≤ k) && s.maskMap[i]).length
                  placed := 0
                  refused := 0
                  presented := some { index := k, origin := o } }) })) ∧
  (∀ (s : State) (m : MaskRun), s.loading = false → s.current = some (.mask m) →
    let b : State := { s with maskMap := s.maskMap.set m.next true }
    let newly := m.newly + if s.maskMap[m.next] then 0 else 1
    (∀ i : Index, i.val = m.next.val + 1 → i ≤ m.last →
      exec .maskRange s = .next { b with current := some (.mask { m with next := i, newly := newly }) }) ∧
    (m.next = m.last →
      exec .maskRange s =
        .next (({ b with current := none } : State).answeredIn m.request.link m.request.session
          (.response m.request.sequence .ok (bytesOf 2 (BitVec.ofNat 16 newly)))))) ∧
  (∀ (s : State) (u : UnmaskRun) (i : Index), s.loading = false → s.current = some (.unmask u) →
    u.presented = none → u.next = i.val → i ≤ u.last →
    let b : State := { s with maskMap := s.maskMap.set i false, latches := s.latches.set i none }
    let v : UnmaskRun := { u with next := i.val + 1, cleared := u.cleared + if s.maskMap[i] then 1 else 0 }
    exec (.unmaskRange 1) s =
      .next { b with
        current := some (.unmask { v with presented := s.latches[i].map fun o => { index := i, origin := o } }) }) ∧
  (∀ (s : State) (u : UnmaskRun), s.loading = false → s.current = some (.unmask u) → u.presented = none →
    u.last.val < u.next → exec (.unmaskRange 1) s = .next (s.unmaskAnswered u)) ∧
  (∀ (s : State) (u : UnmaskRun) (latch : Latch) (pace : Nat), s.current = some (.unmask u) →
    u.presented = some latch → exec (.unmaskRange pace) s = .next s) ∧
  ∀ (s b : State) (p q : Nat), (∃ r operands, Granted s .unmask r operands) ∨
      (∃ u, s.current = some (.unmask u)) →
    exec (.unmaskRange p) s = .next b →
    exec (.unmaskRange (p + q)) s = if b.current = none then .next b else exec (.unmaskRange q) b

/-- SAVE captures the active bank, the mask map and the link records, chooses the slot that does not hold
the valid image of highest generation and the next generation, marks that slot not valid and is not yet
answered; it is answered BAD_VALUE when the generations are spent (R188, R189). Its end, with the memory
reading back as written, makes the slot valid, answers OK with slot and generation and raises SAVE_DONE;
with the contents or the check value reading back otherwise, the slot stays not valid, it is answered FAILED
and SAVE_FAILED is reported; the answer is discarded when the session of the SAVE has ended (R171, R190 to R192,
R194). That the step of SAVE erases every field of the slot and SAVE_END writes it whole is the model's choice
(notes/assumptions/6.md), and so is that SAVE_END is given what the memory reads back (notes/assumptions/14.md). -/
def Obligations.SaveWritesTheOtherSlot : Prop :=
  (∀ (s : State) (r : Request), Granted s .save r [] → s.frozen = false → s.copyState = .idle →
    s.saving = none →
    ((∃ k : ImageSlot, s.summary[k] = some 0xFFFFFFFF) →
      exec .saveTables s = .next (s.responded r .badValue [])) ∧
    ((∀ k : ImageSlot, s.summary[k] ≠ some 0xFFFFFFFF) →
      ∃ (k : ImageSlot) (g : Word) (im : Image), s.newestSlot ≠ some k ∧
        (s.newestSlot = none → k = 0 ∧ g = 1) ∧
        (∀ j, s.newestSlot = some j → ∃ h, s.summary[j] = some h ∧ g = h + 1) ∧
        im.table = s.activeBank ∧ im.maskMap = s.maskMap ∧
        (∀ l : LinkNo, im.records[l] = s.links[l].record) ∧ im.timers = s.timers ∧
        exec .saveTables s =
          .next { s with
            queue := s.queue.tail
            saving := some { snapshot := im, slot := k, generation := g }
            summary := s.summary.set k none
            slots := s.slots.set k
              { generation := none, entries := none, windows := none, maskMap := none,
                sourceRecords := none, targetRecords := none, check := none }
            saveRecord := some { link := r.link, session := r.session, sequence := r.sequence } })) ∧
  ∀ (s : State) (run : SaveRun) (r : SaveRecord) (contents : Option SlotContents)
    (check : Option Word), s.saving = some run → s.saveRecord = some r →
    let written := run.snapshot.contents run.generation
    let good := (contents = none ∨ contents = some written) ∧
      (check = none ∨ check = some (slotCheck (slotBytes written)))
    (good →
      exec (.saveEnd contents check) s =
        .next ((({ s with
            saving := none
            saveRecord := none
            slots := s.slots.set run.slot (Slot.written written (some (slotCheck (slotBytes written))))
            summary := s.summary.set run.slot (some run.generation) } : State).answeredIn r.link r.session
          (.response r.sequence .ok (BitVec.ofNat 8 run.slot.val :: bytesOf 4 run.generation))).raiseEvent
          .saveDone (0xFFFF0000 + BitVec.ofNat 32 run.slot.val))) ∧
    (¬ good →
      ∃ slot : Slot, slot.check = none ∧
        exec (.saveEnd contents check) s =
          .next ((({ s with
              saving := none
              saveRecord := none
              slots := s.slots.set run.slot slot
              summary := s.summary.set run.slot none } : State).answeredIn r.link r.session
            (.response r.sequence .failed [])).report
            { kind := .saveFailed
              link := none
              target := none
              index := none
              event := none
              detail := BitVec.ofNat 16 run.slot.val } false))
end

