-- ==== Sys2Proof/Laws/State.lean ====
section
/-! SUPPORT. For each primitive update of State, one lemma for each field it leaves alone, true by
computation, and one for the field it changes: no later proof unfolds a record update. -/

namespace Sys2Proof.Machine

variable (s : State)

/-! ### modLink -/

@[simp] theorem State.modLink_links (l : LinkNo) (f : Link → Link) :
    (s.modLink l f).links = s.links.set l (f s.links[l]) := rfl
@[simp] theorem State.modLink_loading (l : LinkNo) (f : Link → Link) : (s.modLink l f).loading = s.loading := rfl
@[simp] theorem State.modLink_bankA (l : LinkNo) (f : Link → Link) : (s.modLink l f).bankA = s.bankA := rfl
@[simp] theorem State.modLink_bankB (l : LinkNo) (f : Link → Link) : (s.modLink l f).bankB = s.bankB := rfl
@[simp] theorem State.modLink_active (l : LinkNo) (f : Link → Link) : (s.modLink l f).active = s.active := rfl
@[simp] theorem State.modLink_copyState (l : LinkNo) (f : Link → Link) : (s.modLink l f).copyState = s.copyState := rfl
@[simp] theorem State.modLink_frozen (l : LinkNo) (f : Link → Link) : (s.modLink l f).frozen = s.frozen := rfl
@[simp] theorem State.modLink_records (l : LinkNo) (f : Link → Link) : (s.modLink l f).records = s.records := rfl
@[simp] theorem State.modLink_pointers (l : LinkNo) (f : Link → Link) : (s.modLink l f).pointers = s.pointers := rfl
@[simp] theorem State.modLink_maskMap (l : LinkNo) (f : Link → Link) : (s.modLink l f).maskMap = s.maskMap := rfl
@[simp] theorem State.modLink_latches (l : LinkNo) (f : Link → Link) : (s.modLink l f).latches = s.latches := rfl
@[simp] theorem State.modLink_targets (l : LinkNo) (f : Link → Link) : (s.modLink l f).targets = s.targets := rfl
@[simp] theorem State.modLink_timers (l : LinkNo) (f : Link → Link) : (s.modLink l f).timers = s.timers := rfl
@[simp] theorem State.modLink_faults (l : LinkNo) (f : Link → Link) : (s.modLink l f).faults = s.faults := rfl
@[simp] theorem State.modLink_lostFaults (l : LinkNo) (f : Link → Link) : (s.modLink l f).lostFaults = s.lostFaults := rfl
@[simp] theorem State.modLink_raised (l : LinkNo) (f : Link → Link) : (s.modLink l f).raised = s.raised := rfl
@[simp] theorem State.modLink_queue (l : LinkNo) (f : Link → Link) : (s.modLink l f).queue = s.queue := rfl
@[simp] theorem State.modLink_current (l : LinkNo) (f : Link → Link) : (s.modLink l f).current = s.current := rfl
@[simp] theorem State.modLink_saveRecord (l : LinkNo) (f : Link → Link) : (s.modLink l f).saveRecord = s.saveRecord := rfl
@[simp] theorem State.modLink_slots (l : LinkNo) (f : Link → Link) : (s.modLink l f).slots = s.slots := rfl
@[simp] theorem State.modLink_summary (l : LinkNo) (f : Link → Link) : (s.modLink l f).summary = s.summary := rfl
@[simp] theorem State.modLink_saving (l : LinkNo) (f : Link → Link) : (s.modLink l f).saving = s.saving := rfl
@[simp] theorem State.modLink_loaded (l : LinkNo) (f : Link → Link) : (s.modLink l f).loaded = s.loaded := rfl
@[simp] theorem State.modLink_draws (l : LinkNo) (f : Link → Link) : (s.modLink l f).draws = s.draws := rfl
@[simp] theorem State.modLink_pending (l : LinkNo) (f : Link → Link) : (s.modLink l f).pending = s.pending := rfl
@[simp] theorem State.modLink_arriving (l : LinkNo) (f : Link → Link) : (s.modLink l f).arriving = s.arriving := rfl
@[simp] theorem State.modLink_presented (l : LinkNo) (f : Link → Link) : (s.modLink l f).presented = s.presented := rfl

/-! ### modTarget -/

@[simp] theorem State.modTarget_targets (t : TargetNo) (f : Target → Target) :
    (s.modTarget t f).targets = s.targets.set t (f s.targets[t]) := rfl
@[simp] theorem State.modTarget_loading (t : TargetNo) (f : Target → Target) : (s.modTarget t f).loading = s.loading := rfl
@[simp] theorem State.modTarget_bankA (t : TargetNo) (f : Target → Target) : (s.modTarget t f).bankA = s.bankA := rfl
@[simp] theorem State.modTarget_bankB (t : TargetNo) (f : Target → Target) : (s.modTarget t f).bankB = s.bankB := rfl
@[simp] theorem State.modTarget_active (t : TargetNo) (f : Target → Target) : (s.modTarget t f).active = s.active := rfl
@[simp] theorem State.modTarget_copyState (t : TargetNo) (f : Target → Target) : (s.modTarget t f).copyState = s.copyState := rfl
@[simp] theorem State.modTarget_frozen (t : TargetNo) (f : Target → Target) : (s.modTarget t f).frozen = s.frozen := rfl
@[simp] theorem State.modTarget_records (t : TargetNo) (f : Target → Target) : (s.modTarget t f).records = s.records := rfl
@[simp] theorem State.modTarget_pointers (t : TargetNo) (f : Target → Target) : (s.modTarget t f).pointers = s.pointers := rfl
@[simp] theorem State.modTarget_maskMap (t : TargetNo) (f : Target → Target) : (s.modTarget t f).maskMap = s.maskMap := rfl
@[simp] theorem State.modTarget_latches (t : TargetNo) (f : Target → Target) : (s.modTarget t f).latches = s.latches := rfl
@[simp] theorem State.modTarget_timers (t : TargetNo) (f : Target → Target) : (s.modTarget t f).timers = s.timers := rfl
@[simp] theorem State.modTarget_faults (t : TargetNo) (f : Target → Target) : (s.modTarget t f).faults = s.faults := rfl
@[simp] theorem State.modTarget_lostFaults (t : TargetNo) (f : Target → Target) : (s.modTarget t f).lostFaults = s.lostFaults := rfl
@[simp] theorem State.modTarget_raised (t : TargetNo) (f : Target → Target) : (s.modTarget t f).raised = s.raised := rfl
@[simp] theorem State.modTarget_links (t : TargetNo) (f : Target → Target) : (s.modTarget t f).links = s.links := rfl
@[simp] theorem State.modTarget_queue (t : TargetNo) (f : Target → Target) : (s.modTarget t f).queue = s.queue := rfl
@[simp] theorem State.modTarget_current (t : TargetNo) (f : Target → Target) : (s.modTarget t f).current = s.current := rfl
@[simp] theorem State.modTarget_saveRecord (t : TargetNo) (f : Target → Target) : (s.modTarget t f).saveRecord = s.saveRecord := rfl
@[simp] theorem State.modTarget_slots (t : TargetNo) (f : Target → Target) : (s.modTarget t f).slots = s.slots := rfl
@[simp] theorem State.modTarget_summary (t : TargetNo) (f : Target → Target) : (s.modTarget t f).summary = s.summary := rfl
@[simp] theorem State.modTarget_saving (t : TargetNo) (f : Target → Target) : (s.modTarget t f).saving = s.saving := rfl
@[simp] theorem State.modTarget_loaded (t : TargetNo) (f : Target → Target) : (s.modTarget t f).loaded = s.loaded := rfl
@[simp] theorem State.modTarget_draws (t : TargetNo) (f : Target → Target) : (s.modTarget t f).draws = s.draws := rfl
@[simp] theorem State.modTarget_pending (t : TargetNo) (f : Target → Target) : (s.modTarget t f).pending = s.pending := rfl
@[simp] theorem State.modTarget_arriving (t : TargetNo) (f : Target → Target) : (s.modTarget t f).arriving = s.arriving := rfl
@[simp] theorem State.modTarget_presented (t : TargetNo) (f : Target → Target) : (s.modTarget t f).presented = s.presented := rfl

/-! ### setRecords -/

@[simp] theorem State.setRecords_records (rs : List Record) :
    (s.setRecords rs).records = rs := rfl
@[simp] theorem State.setRecords_loading (rs : List Record) : (s.setRecords rs).loading = s.loading := rfl
@[simp] theorem State.setRecords_bankA (rs : List Record) : (s.setRecords rs).bankA = s.bankA := rfl
@[simp] theorem State.setRecords_bankB (rs : List Record) : (s.setRecords rs).bankB = s.bankB := rfl
@[simp] theorem State.setRecords_active (rs : List Record) : (s.setRecords rs).active = s.active := rfl
@[simp] theorem State.setRecords_copyState (rs : List Record) : (s.setRecords rs).copyState = s.copyState := rfl
@[simp] theorem State.setRecords_frozen (rs : List Record) : (s.setRecords rs).frozen = s.frozen := rfl
@[simp] theorem State.setRecords_pointers (rs : List Record) : (s.setRecords rs).pointers = s.pointers := rfl
@[simp] theorem State.setRecords_maskMap (rs : List Record) : (s.setRecords rs).maskMap = s.maskMap := rfl
@[simp] theorem State.setRecords_latches (rs : List Record) : (s.setRecords rs).latches = s.latches := rfl
@[simp] theorem State.setRecords_targets (rs : List Record) : (s.setRecords rs).targets = s.targets := rfl
@[simp] theorem State.setRecords_timers (rs : List Record) : (s.setRecords rs).timers = s.timers := rfl
@[simp] theorem State.setRecords_faults (rs : List Record) : (s.setRecords rs).faults = s.faults := rfl
@[simp] theorem State.setRecords_lostFaults (rs : List Record) : (s.setRecords rs).lostFaults = s.lostFaults := rfl
@[simp] theorem State.setRecords_raised (rs : List Record) : (s.setRecords rs).raised = s.raised := rfl
@[simp] theorem State.setRecords_links (rs : List Record) : (s.setRecords rs).links = s.links := rfl
@[simp] theorem State.setRecords_queue (rs : List Record) : (s.setRecords rs).queue = s.queue := rfl
@[simp] theorem State.setRecords_current (rs : List Record) : (s.setRecords rs).current = s.current := rfl
@[simp] theorem State.setRecords_saveRecord (rs : List Record) : (s.setRecords rs).saveRecord = s.saveRecord := rfl
@[simp] theorem State.setRecords_slots (rs : List Record) : (s.setRecords rs).slots = s.slots := rfl
@[simp] theorem State.setRecords_summary (rs : List Record) : (s.setRecords rs).summary = s.summary := rfl
@[simp] theorem State.setRecords_saving (rs : List Record) : (s.setRecords rs).saving = s.saving := rfl
@[simp] theorem State.setRecords_loaded (rs : List Record) : (s.setRecords rs).loaded = s.loaded := rfl
@[simp] theorem State.setRecords_draws (rs : List Record) : (s.setRecords rs).draws = s.draws := rfl
@[simp] theorem State.setRecords_pending (rs : List Record) : (s.setRecords rs).pending = s.pending := rfl
@[simp] theorem State.setRecords_arriving (rs : List Record) : (s.setRecords rs).arriving = s.arriving := rfl
@[simp] theorem State.setRecords_presented (rs : List Record) : (s.setRecords rs).presented = s.presented := rfl

/-! ### withLink -/

@[simp] theorem State.withLink_links (l : LinkNo) (k : Link) :
    (s.withLink l k).links = s.links.set l k := rfl
@[simp] theorem State.withLink_loading (l : LinkNo) (k : Link) : (s.withLink l k).loading = s.loading := rfl
@[simp] theorem State.withLink_bankA (l : LinkNo) (k : Link) : (s.withLink l k).bankA = s.bankA := rfl
@[simp] theorem State.withLink_bankB (l : LinkNo) (k : Link) : (s.withLink l k).bankB = s.bankB := rfl
@[simp] theorem State.withLink_active (l : LinkNo) (k : Link) : (s.withLink l k).active = s.active := rfl
@[simp] theorem State.withLink_copyState (l : LinkNo) (k : Link) : (s.withLink l k).copyState = s.copyState := rfl
@[simp] theorem State.withLink_frozen (l : LinkNo) (k : Link) : (s.withLink l k).frozen = s.frozen := rfl
@[simp] theorem State.withLink_records (l : LinkNo) (k : Link) : (s.withLink l k).records = s.records := rfl
@[simp] theorem State.withLink_pointers (l : LinkNo) (k : Link) : (s.withLink l k).pointers = s.pointers := rfl
@[simp] theorem State.withLink_maskMap (l : LinkNo) (k : Link) : (s.withLink l k).maskMap = s.maskMap := rfl
@[simp] theorem State.withLink_latches (l : LinkNo) (k : Link) : (s.withLink l k).latches = s.latches := rfl
@[simp] theorem State.withLink_targets (l : LinkNo) (k : Link) : (s.withLink l k).targets = s.targets := rfl
@[simp] theorem State.withLink_timers (l : LinkNo) (k : Link) : (s.withLink l k).timers = s.timers := rfl
@[simp] theorem State.withLink_faults (l : LinkNo) (k : Link) : (s.withLink l k).faults = s.faults := rfl
@[simp] theorem State.withLink_lostFaults (l : LinkNo) (k : Link) : (s.withLink l k).lostFaults = s.lostFaults := rfl
@[simp] theorem State.withLink_raised (l : LinkNo) (k : Link) : (s.withLink l k).raised = s.raised := rfl
@[simp] theorem State.withLink_queue (l : LinkNo) (k : Link) : (s.withLink l k).queue = s.queue := rfl
@[simp] theorem State.withLink_current (l : LinkNo) (k : Link) : (s.withLink l k).current = s.current := rfl
@[simp] theorem State.withLink_saveRecord (l : LinkNo) (k : Link) : (s.withLink l k).saveRecord = s.saveRecord := rfl
@[simp] theorem State.withLink_slots (l : LinkNo) (k : Link) : (s.withLink l k).slots = s.slots := rfl
@[simp] theorem State.withLink_summary (l : LinkNo) (k : Link) : (s.withLink l k).summary = s.summary := rfl
@[simp] theorem State.withLink_saving (l : LinkNo) (k : Link) : (s.withLink l k).saving = s.saving := rfl
@[simp] theorem State.withLink_loaded (l : LinkNo) (k : Link) : (s.withLink l k).loaded = s.loaded := rfl
@[simp] theorem State.withLink_draws (l : LinkNo) (k : Link) : (s.withLink l k).draws = s.draws := rfl
@[simp] theorem State.withLink_pending (l : LinkNo) (k : Link) : (s.withLink l k).pending = s.pending := rfl
@[simp] theorem State.withLink_arriving (l : LinkNo) (k : Link) : (s.withLink l k).arriving = s.arriving := rfl
@[simp] theorem State.withLink_presented (l : LinkNo) (k : Link) : (s.withLink l k).presented = s.presented := rfl

/-! ### withTarget -/

@[simp] theorem State.withTarget_targets (t : TargetNo) (g : Target) :
    (s.withTarget t g).targets = s.targets.set t g := rfl
@[simp] theorem State.withTarget_loading (t : TargetNo) (g : Target) : (s.withTarget t g).loading = s.loading := rfl
@[simp] theorem State.withTarget_bankA (t : TargetNo) (g : Target) : (s.withTarget t g).bankA = s.bankA := rfl
@[simp] theorem State.withTarget_bankB (t : TargetNo) (g : Target) : (s.withTarget t g).bankB = s.bankB := rfl
@[simp] theorem State.withTarget_active (t : TargetNo) (g : Target) : (s.withTarget t g).active = s.active := rfl
@[simp] theorem State.withTarget_copyState (t : TargetNo) (g : Target) : (s.withTarget t g).copyState = s.copyState := rfl
@[simp] theorem State.withTarget_frozen (t : TargetNo) (g : Target) : (s.withTarget t g).frozen = s.frozen := rfl
@[simp] theorem State.withTarget_records (t : TargetNo) (g : Target) : (s.withTarget t g).records = s.records := rfl
@[simp] theorem State.withTarget_pointers (t : TargetNo) (g : Target) : (s.withTarget t g).pointers = s.pointers := rfl
@[simp] theorem State.withTarget_maskMap (t : TargetNo) (g : Target) : (s.withTarget t g).maskMap = s.maskMap := rfl
@[simp] theorem State.withTarget_latches (t : TargetNo) (g : Target) : (s.withTarget t g).latches = s.latches := rfl
@[simp] theorem State.withTarget_timers (t : TargetNo) (g : Target) : (s.withTarget t g).timers = s.timers := rfl
@[simp] theorem State.withTarget_faults (t : TargetNo) (g : Target) : (s.withTarget t g).faults = s.faults := rfl
@[simp] theorem State.withTarget_lostFaults (t : TargetNo) (g : Target) : (s.withTarget t g).lostFaults = s.lostFaults := rfl
@[simp] theorem State.withTarget_raised (t : TargetNo) (g : Target) : (s.withTarget t g).raised = s.raised := rfl
@[simp] theorem State.withTarget_links (t : TargetNo) (g : Target) : (s.withTarget t g).links = s.links := rfl
@[simp] theorem State.withTarget_queue (t : TargetNo) (g : Target) : (s.withTarget t g).queue = s.queue := rfl
@[simp] theorem State.withTarget_current (t : TargetNo) (g : Target) : (s.withTarget t g).current = s.current := rfl
@[simp] theorem State.withTarget_saveRecord (t : TargetNo) (g : Target) : (s.withTarget t g).saveRecord = s.saveRecord := rfl
@[simp] theorem State.withTarget_slots (t : TargetNo) (g : Target) : (s.withTarget t g).slots = s.slots := rfl
@[simp] theorem State.withTarget_summary (t : TargetNo) (g : Target) : (s.withTarget t g).summary = s.summary := rfl
@[simp] theorem State.withTarget_saving (t : TargetNo) (g : Target) : (s.withTarget t g).saving = s.saving := rfl
@[simp] theorem State.withTarget_loaded (t : TargetNo) (g : Target) : (s.withTarget t g).loaded = s.loaded := rfl
@[simp] theorem State.withTarget_draws (t : TargetNo) (g : Target) : (s.withTarget t g).draws = s.draws := rfl
@[simp] theorem State.withTarget_pending (t : TargetNo) (g : Target) : (s.withTarget t g).pending = s.pending := rfl
@[simp] theorem State.withTarget_arriving (t : TargetNo) (g : Target) : (s.withTarget t g).arriving = s.arriving := rfl
@[simp] theorem State.withTarget_presented (t : TargetNo) (g : Target) : (s.withTarget t g).presented = s.presented := rfl

/-! ### queued -/

@[simp] theorem State.queued_loading (l : LinkNo) (f : OutFrame) : (s.queued l f).loading = s.loading := rfl
@[simp] theorem State.queued_bankA (l : LinkNo) (f : OutFrame) : (s.queued l f).bankA = s.bankA := rfl
@[simp] theorem State.queued_bankB (l : LinkNo) (f : OutFrame) : (s.queued l f).bankB = s.bankB := rfl
@[simp] theorem State.queued_active (l : LinkNo) (f : OutFrame) : (s.queued l f).active = s.active := rfl
@[simp] theorem State.queued_copyState (l : LinkNo) (f : OutFrame) : (s.queued l f).copyState = s.copyState := rfl
@[simp] theorem State.queued_frozen (l : LinkNo) (f : OutFrame) : (s.queued l f).frozen = s.frozen := rfl
@[simp] theorem State.queued_records (l : LinkNo) (f : OutFrame) : (s.queued l f).records = s.records := rfl
@[simp] theorem State.queued_pointers (l : LinkNo) (f : OutFrame) : (s.queued l f).pointers = s.pointers := rfl
@[simp] theorem State.queued_maskMap (l : LinkNo) (f : OutFrame) : (s.queued l f).maskMap = s.maskMap := rfl
@[simp] theorem State.queued_latches (l : LinkNo) (f : OutFrame) : (s.queued l f).latches = s.latches := rfl
@[simp] theorem State.queued_targets (l : LinkNo) (f : OutFrame) : (s.queued l f).targets = s.targets := rfl
@[simp] theorem State.queued_timers (l : LinkNo) (f : OutFrame) : (s.queued l f).timers = s.timers := rfl
@[simp] theorem State.queued_faults (l : LinkNo) (f : OutFrame) : (s.queued l f).faults = s.faults := rfl
@[simp] theorem State.queued_lostFaults (l : LinkNo) (f : OutFrame) : (s.queued l f).lostFaults = s.lostFaults := rfl
@[simp] theorem State.queued_raised (l : LinkNo) (f : OutFrame) : (s.queued l f).raised = s.raised := rfl
@[simp] theorem State.queued_queue (l : LinkNo) (f : OutFrame) : (s.queued l f).queue = s.queue := rfl
@[simp] theorem State.queued_current (l : LinkNo) (f : OutFrame) : (s.queued l f).current = s.current := rfl
@[simp] theorem State.queued_saveRecord (l : LinkNo) (f : OutFrame) : (s.queued l f).saveRecord = s.saveRecord := rfl
@[simp] theorem State.queued_slots (l : LinkNo) (f : OutFrame) : (s.queued l f).slots = s.slots := rfl
@[simp] theorem State.queued_summary (l : LinkNo) (f : OutFrame) : (s.queued l f).summary = s.summary := rfl
@[simp] theorem State.queued_saving (l : LinkNo) (f : OutFrame) : (s.queued l f).saving = s.saving := rfl
@[simp] theorem State.queued_loaded (l : LinkNo) (f : OutFrame) : (s.queued l f).loaded = s.loaded := rfl
@[simp] theorem State.queued_draws (l : LinkNo) (f : OutFrame) : (s.queued l f).draws = s.draws := rfl
@[simp] theorem State.queued_pending (l : LinkNo) (f : OutFrame) : (s.queued l f).pending = s.pending := rfl
@[simp] theorem State.queued_arriving (l : LinkNo) (f : OutFrame) : (s.queued l f).arriving = s.arriving := rfl
@[simp] theorem State.queued_presented (l : LinkNo) (f : OutFrame) : (s.queued l f).presented = s.presented := rfl

/-! ### finish -/

@[simp] theorem State.finish_loading (l : LinkNo) : (s.finish l).loading = s.loading := rfl
@[simp] theorem State.finish_bankA (l : LinkNo) : (s.finish l).bankA = s.bankA := rfl
@[simp] theorem State.finish_bankB (l : LinkNo) : (s.finish l).bankB = s.bankB := rfl
@[simp] theorem State.finish_active (l : LinkNo) : (s.finish l).active = s.active := rfl
@[simp] theorem State.finish_copyState (l : LinkNo) : (s.finish l).copyState = s.copyState := rfl
@[simp] theorem State.finish_frozen (l : LinkNo) : (s.finish l).frozen = s.frozen := rfl
@[simp] theorem State.finish_records (l : LinkNo) : (s.finish l).records = s.records := rfl
@[simp] theorem State.finish_pointers (l : LinkNo) : (s.finish l).pointers = s.pointers := rfl
@[simp] theorem State.finish_maskMap (l : LinkNo) : (s.finish l).maskMap = s.maskMap := rfl
@[simp] theorem State.finish_latches (l : LinkNo) : (s.finish l).latches = s.latches := rfl
@[simp] theorem State.finish_targets (l : LinkNo) : (s.finish l).targets = s.targets := rfl
@[simp] theorem State.finish_timers (l : LinkNo) : (s.finish l).timers = s.timers := rfl
@[simp] theorem State.finish_faults (l : LinkNo) : (s.finish l).faults = s.faults := rfl
@[simp] theorem State.finish_lostFaults (l : LinkNo) : (s.finish l).lostFaults = s.lostFaults := rfl
@[simp] theorem State.finish_raised (l : LinkNo) : (s.finish l).raised = s.raised := rfl
@[simp] theorem State.finish_queue (l : LinkNo) : (s.finish l).queue = s.queue := rfl
@[simp] theorem State.finish_current (l : LinkNo) : (s.finish l).current = s.current := rfl
@[simp] theorem State.finish_saveRecord (l : LinkNo) : (s.finish l).saveRecord = s.saveRecord := rfl
@[simp] theorem State.finish_slots (l : LinkNo) : (s.finish l).slots = s.slots := rfl
@[simp] theorem State.finish_summary (l : LinkNo) : (s.finish l).summary = s.summary := rfl
@[simp] theorem State.finish_saving (l : LinkNo) : (s.finish l).saving = s.saving := rfl
@[simp] theorem State.finish_loaded (l : LinkNo) : (s.finish l).loaded = s.loaded := rfl
@[simp] theorem State.finish_draws (l : LinkNo) : (s.finish l).draws = s.draws := rfl
@[simp] theorem State.finish_pending (l : LinkNo) : (s.finish l).pending = s.pending := rfl
@[simp] theorem State.finish_arriving (l : LinkNo) : (s.finish l).arriving = s.arriving := rfl
@[simp] theorem State.finish_presented (l : LinkNo) : (s.finish l).presented = s.presented := rfl

/-! ### finishFrame -/

@[simp] theorem State.finishFrame_loading (l : LinkNo) (p : InFrame → Bool) : (s.finishFrame l p).loading = s.loading := rfl
@[simp] theorem State.finishFrame_bankA (l : LinkNo) (p : InFrame → Bool) : (s.finishFrame l p).bankA = s.bankA := rfl
@[simp] theorem State.finishFrame_bankB (l : LinkNo) (p : InFrame → Bool) : (s.finishFrame l p).bankB = s.bankB := rfl
@[simp] theorem State.finishFrame_active (l : LinkNo) (p : InFrame → Bool) : (s.finishFrame l p).active = s.active := rfl
@[simp] theorem State.finishFrame_copyState (l : LinkNo) (p : InFrame → Bool) : (s.finishFrame l p).copyState = s.copyState := rfl
@[simp] theorem State.finishFrame_frozen (l : LinkNo) (p : InFrame → Bool) : (s.finishFrame l p).frozen = s.frozen := rfl
@[simp] theorem State.finishFrame_records (l : LinkNo) (p : InFrame → Bool) : (s.finishFrame l p).records = s.records := rfl
@[simp] theorem State.finishFrame_pointers (l : LinkNo) (p : InFrame → Bool) : (s.finishFrame l p).pointers = s.pointers := rfl
@[simp] theorem State.finishFrame_maskMap (l : LinkNo) (p : InFrame → Bool) : (s.finishFrame l p).maskMap = s.maskMap := rfl
@[simp] theorem State.finishFrame_latches (l : LinkNo) (p : InFrame → Bool) : (s.finishFrame l p).latches = s.latches := rfl
@[simp] theorem State.finishFrame_targets (l : LinkNo) (p : InFrame → Bool) : (s.finishFrame l p).targets = s.targets := rfl
@[simp] theorem State.finishFrame_timers (l : LinkNo) (p : InFrame → Bool) : (s.finishFrame l p).timers = s.timers := rfl
@[simp] theorem State.finishFrame_faults (l : LinkNo) (p : InFrame → Bool) : (s.finishFrame l p).faults = s.faults := rfl
@[simp] theorem State.finishFrame_lostFaults (l : LinkNo) (p : InFrame → Bool) : (s.finishFrame l p).lostFaults = s.lostFaults := rfl
@[simp] theorem State.finishFrame_raised (l : LinkNo) (p : InFrame → Bool) : (s.finishFrame l p).raised = s.raised := rfl
@[simp] theorem State.finishFrame_queue (l : LinkNo) (p : InFrame → Bool) : (s.finishFrame l p).queue = s.queue := rfl
@[simp] theorem State.finishFrame_current (l : LinkNo) (p : InFrame → Bool) : (s.finishFrame l p).current = s.current := rfl
@[simp] theorem State.finishFrame_saveRecord (l : LinkNo) (p : InFrame → Bool) : (s.finishFrame l p).saveRecord = s.saveRecord := rfl
@[simp] theorem State.finishFrame_slots (l : LinkNo) (p : InFrame → Bool) : (s.finishFrame l p).slots = s.slots := rfl
@[simp] theorem State.finishFrame_summary (l : LinkNo) (p : InFrame → Bool) : (s.finishFrame l p).summary = s.summary := rfl
@[simp] theorem State.finishFrame_saving (l : LinkNo) (p : InFrame → Bool) : (s.finishFrame l p).saving = s.saving := rfl
@[simp] theorem State.finishFrame_loaded (l : LinkNo) (p : InFrame → Bool) : (s.finishFrame l p).loaded = s.loaded := rfl
@[simp] theorem State.finishFrame_draws (l : LinkNo) (p : InFrame → Bool) : (s.finishFrame l p).draws = s.draws := rfl
@[simp] theorem State.finishFrame_pending (l : LinkNo) (p : InFrame → Bool) : (s.finishFrame l p).pending = s.pending := rfl
@[simp] theorem State.finishFrame_arriving (l : LinkNo) (p : InFrame → Bool) : (s.finishFrame l p).arriving = s.arriving := rfl
@[simp] theorem State.finishFrame_presented (l : LinkNo) (p : InFrame → Bool) : (s.finishFrame l p).presented = s.presented := rfl

/-! ### freeRecord -/

@[simp] theorem State.freeRecord_records (slot : SlotNo) :
    (s.freeRecord slot).records = s.records.filter fun r => r.slot != slot := rfl
@[simp] theorem State.freeRecord_loading (slot : SlotNo) : (s.freeRecord slot).loading = s.loading := rfl
@[simp] theorem State.freeRecord_bankA (slot : SlotNo) : (s.freeRecord slot).bankA = s.bankA := rfl
@[simp] theorem State.freeRecord_bankB (slot : SlotNo) : (s.freeRecord slot).bankB = s.bankB := rfl
@[simp] theorem State.freeRecord_active (slot : SlotNo) : (s.freeRecord slot).active = s.active := rfl
@[simp] theorem State.freeRecord_copyState (slot : SlotNo) : (s.freeRecord slot).copyState = s.copyState := rfl
@[simp] theorem State.freeRecord_frozen (slot : SlotNo) : (s.freeRecord slot).frozen = s.frozen := rfl
@[simp] theorem State.freeRecord_pointers (slot : SlotNo) : (s.freeRecord slot).pointers = s.pointers := rfl
@[simp] theorem State.freeRecord_maskMap (slot : SlotNo) : (s.freeRecord slot).maskMap = s.maskMap := rfl
@[simp] theorem State.freeRecord_latches (slot : SlotNo) : (s.freeRecord slot).latches = s.latches := rfl
@[simp] theorem State.freeRecord_targets (slot : SlotNo) : (s.freeRecord slot).targets = s.targets := rfl
@[simp] theorem State.freeRecord_timers (slot : SlotNo) : (s.freeRecord slot).timers = s.timers := rfl
@[simp] theorem State.freeRecord_faults (slot : SlotNo) : (s.freeRecord slot).faults = s.faults := rfl
@[simp] theorem State.freeRecord_lostFaults (slot : SlotNo) : (s.freeRecord slot).lostFaults = s.lostFaults := rfl
@[simp] theorem State.freeRecord_raised (slot : SlotNo) : (s.freeRecord slot).raised = s.raised := rfl
@[simp] theorem State.freeRecord_links (slot : SlotNo) : (s.freeRecord slot).links = s.links := rfl
@[simp] theorem State.freeRecord_queue (slot : SlotNo) : (s.freeRecord slot).queue = s.queue := rfl
@[simp] theorem State.freeRecord_current (slot : SlotNo) : (s.freeRecord slot).current = s.current := rfl
@[simp] theorem State.freeRecord_saveRecord (slot : SlotNo) : (s.freeRecord slot).saveRecord = s.saveRecord := rfl
@[simp] theorem State.freeRecord_slots (slot : SlotNo) : (s.freeRecord slot).slots = s.slots := rfl
@[simp] theorem State.freeRecord_summary (slot : SlotNo) : (s.freeRecord slot).summary = s.summary := rfl
@[simp] theorem State.freeRecord_saving (slot : SlotNo) : (s.freeRecord slot).saving = s.saving := rfl
@[simp] theorem State.freeRecord_loaded (slot : SlotNo) : (s.freeRecord slot).loaded = s.loaded := rfl
@[simp] theorem State.freeRecord_draws (slot : SlotNo) : (s.freeRecord slot).draws = s.draws := rfl
@[simp] theorem State.freeRecord_pending (slot : SlotNo) : (s.freeRecord slot).pending = s.pending := rfl
@[simp] theorem State.freeRecord_arriving (slot : SlotNo) : (s.freeRecord slot).arriving = s.arriving := rfl
@[simp] theorem State.freeRecord_presented (slot : SlotNo) : (s.freeRecord slot).presented = s.presented := rfl

/-! ### changeRecord -/

@[simp] theorem State.changeRecord_records (slot : SlotNo) (f : Record → Record) :
    (s.changeRecord slot f).records = s.records.map fun r => if r.slot = slot then f r else r := rfl
@[simp] theorem State.changeRecord_loading (slot : SlotNo) (f : Record → Record) : (s.changeRecord slot f).loading = s.loading := rfl
@[simp] theorem State.changeRecord_bankA (slot : SlotNo) (f : Record → Record) : (s.changeRecord slot f).bankA = s.bankA := rfl
@[simp] theorem State.changeRecord_bankB (slot : SlotNo) (f : Record → Record) : (s.changeRecord slot f).bankB = s.bankB := rfl
@[simp] theorem State.changeRecord_active (slot : SlotNo) (f : Record → Record) : (s.changeRecord slot f).active = s.active := rfl
@[simp] theorem State.changeRecord_copyState (slot : SlotNo) (f : Record → Record) : (s.changeRecord slot f).copyState = s.copyState := rfl
@[simp] theorem State.changeRecord_frozen (slot : SlotNo) (f : Record → Record) : (s.changeRecord slot f).frozen = s.frozen := rfl
@[simp] theorem State.changeRecord_pointers (slot : SlotNo) (f : Record → Record) : (s.changeRecord slot f).pointers = s.pointers := rfl
@[simp] theorem State.changeRecord_maskMap (slot : SlotNo) (f : Record → Record) : (s.changeRecord slot f).maskMap = s.maskMap := rfl
@[simp] theorem State.changeRecord_latches (slot : SlotNo) (f : Record → Record) : (s.changeRecord slot f).latches = s.latches := rfl
@[simp] theorem State.changeRecord_targets (slot : SlotNo) (f : Record → Record) : (s.changeRecord slot f).targets = s.targets := rfl
@[simp] theorem State.changeRecord_timers (slot : SlotNo) (f : Record → Record) : (s.changeRecord slot f).timers = s.timers := rfl
@[simp] theorem State.changeRecord_faults (slot : SlotNo) (f : Record → Record) : (s.changeRecord slot f).faults = s.faults := rfl
@[simp] theorem State.changeRecord_lostFaults (slot : SlotNo) (f : Record → Record) : (s.changeRecord slot f).lostFaults = s.lostFaults := rfl
@[simp] theorem State.changeRecord_raised (slot : SlotNo) (f : Record → Record) : (s.changeRecord slot f).raised = s.raised := rfl
@[simp] theorem State.changeRecord_links (slot : SlotNo) (f : Record → Record) : (s.changeRecord slot f).links = s.links := rfl
@[simp] theorem State.changeRecord_queue (slot : SlotNo) (f : Record → Record) : (s.changeRecord slot f).queue = s.queue := rfl
@[simp] theorem State.changeRecord_current (slot : SlotNo) (f : Record → Record) : (s.changeRecord slot f).current = s.current := rfl
@[simp] theorem State.changeRecord_saveRecord (slot : SlotNo) (f : Record → Record) : (s.changeRecord slot f).saveRecord = s.saveRecord := rfl
@[simp] theorem State.changeRecord_slots (slot : SlotNo) (f : Record → Record) : (s.changeRecord slot f).slots = s.slots := rfl
@[simp] theorem State.changeRecord_summary (slot : SlotNo) (f : Record → Record) : (s.changeRecord slot f).summary = s.summary := rfl
@[simp] theorem State.changeRecord_saving (slot : SlotNo) (f : Record → Record) : (s.changeRecord slot f).saving = s.saving := rfl
@[simp] theorem State.changeRecord_loaded (slot : SlotNo) (f : Record → Record) : (s.changeRecord slot f).loaded = s.loaded := rfl
@[simp] theorem State.changeRecord_draws (slot : SlotNo) (f : Record → Record) : (s.changeRecord slot f).draws = s.draws := rfl
@[simp] theorem State.changeRecord_pending (slot : SlotNo) (f : Record → Record) : (s.changeRecord slot f).pending = s.pending := rfl
@[simp] theorem State.changeRecord_arriving (slot : SlotNo) (f : Record → Record) : (s.changeRecord slot f).arriving = s.arriving := rfl
@[simp] theorem State.changeRecord_presented (slot : SlotNo) (f : Record → Record) : (s.changeRecord slot f).presented = s.presented := rfl

/-! ### handOver -/

@[simp] theorem State.handOver_loading (l : LinkNo) (n : Nat) (q : Queued) : (s.handOver l n q).loading = s.loading :=
  by unfold State.handOver; split <;> rfl
@[simp] theorem State.handOver_bankA (l : LinkNo) (n : Nat) (q : Queued) : (s.handOver l n q).bankA = s.bankA :=
  by unfold State.handOver; split <;> rfl
@[simp] theorem State.handOver_bankB (l : LinkNo) (n : Nat) (q : Queued) : (s.handOver l n q).bankB = s.bankB :=
  by unfold State.handOver; split <;> rfl
@[simp] theorem State.handOver_active (l : LinkNo) (n : Nat) (q : Queued) : (s.handOver l n q).active = s.active :=
  by unfold State.handOver; split <;> rfl
@[simp] theorem State.handOver_copyState (l : LinkNo) (n : Nat) (q : Queued) : (s.handOver l n q).copyState = s.copyState :=
  by unfold State.handOver; split <;> rfl
@[simp] theorem State.handOver_frozen (l : LinkNo) (n : Nat) (q : Queued) : (s.handOver l n q).frozen = s.frozen :=
  by unfold State.handOver; split <;> rfl
@[simp] theorem State.handOver_records (l : LinkNo) (n : Nat) (q : Queued) : (s.handOver l n q).records = s.records :=
  by unfold State.handOver; split <;> rfl
@[simp] theorem State.handOver_pointers (l : LinkNo) (n : Nat) (q : Queued) : (s.handOver l n q).pointers = s.pointers :=
  by unfold State.handOver; split <;> rfl
@[simp] theorem State.handOver_maskMap (l : LinkNo) (n : Nat) (q : Queued) : (s.handOver l n q).maskMap = s.maskMap :=
  by unfold State.handOver; split <;> rfl
@[simp] theorem State.handOver_latches (l : LinkNo) (n : Nat) (q : Queued) : (s.handOver l n q).latches = s.latches :=
  by unfold State.handOver; split <;> rfl
@[simp] theorem State.handOver_targets (l : LinkNo) (n : Nat) (q : Queued) : (s.handOver l n q).targets = s.targets :=
  by unfold State.handOver; split <;> rfl
@[simp] theorem State.handOver_timers (l : LinkNo) (n : Nat) (q : Queued) : (s.handOver l n q).timers = s.timers :=
  by unfold State.handOver; split <;> rfl
@[simp] theorem State.handOver_faults (l : LinkNo) (n : Nat) (q : Queued) : (s.handOver l n q).faults = s.faults :=
  by unfold State.handOver; split <;> rfl
@[simp] theorem State.handOver_lostFaults (l : LinkNo) (n : Nat) (q : Queued) : (s.handOver l n q).lostFaults = s.lostFaults :=
  by unfold State.handOver; split <;> rfl
@[simp] theorem State.handOver_raised (l : LinkNo) (n : Nat) (q : Queued) : (s.handOver l n q).raised = s.raised :=
  by unfold State.handOver; split <;> rfl
@[simp] theorem State.handOver_queue (l : LinkNo) (n : Nat) (q : Queued) : (s.handOver l n q).queue = s.queue :=
  by unfold State.handOver; split <;> rfl
@[simp] theorem State.handOver_current (l : LinkNo) (n : Nat) (q : Queued) : (s.handOver l n q).current = s.current :=
  by unfold State.handOver; split <;> rfl
@[simp] theorem State.handOver_saveRecord (l : LinkNo) (n : Nat) (q : Queued) : (s.handOver l n q).saveRecord = s.saveRecord :=
  by unfold State.handOver; split <;> rfl
@[simp] theorem State.handOver_slots (l : LinkNo) (n : Nat) (q : Queued) : (s.handOver l n q).slots = s.slots :=
  by unfold State.handOver; split <;> rfl
@[simp] theorem State.handOver_summary (l : LinkNo) (n : Nat) (q : Queued) : (s.handOver l n q).summary = s.summary :=
  by unfold State.handOver; split <;> rfl
@[simp] theorem State.handOver_saving (l : LinkNo) (n : Nat) (q : Queued) : (s.handOver l n q).saving = s.saving :=
  by unfold State.handOver; split <;> rfl
@[simp] theorem State.handOver_loaded (l : LinkNo) (n : Nat) (q : Queued) : (s.handOver l n q).loaded = s.loaded :=
  by unfold State.handOver; split <;> rfl
@[simp] theorem State.handOver_draws (l : LinkNo) (n : Nat) (q : Queued) : (s.handOver l n q).draws = s.draws :=
  by unfold State.handOver; split <;> rfl
@[simp] theorem State.handOver_arriving (l : LinkNo) (n : Nat) (q : Queued) : (s.handOver l n q).arriving = s.arriving :=
  by unfold State.handOver; split <;> rfl
@[simp] theorem State.handOver_presented (l : LinkNo) (n : Nat) (q : Queued) : (s.handOver l n q).presented = s.presented :=
  by unfold State.handOver; split <;> rfl
@[simp] theorem State.handOver_pending (l : LinkNo) (n : Nat) (q : Queued) : (s.handOver l n q).pending = s.pending :=
  by unfold State.handOver; split <;> rfl

/-! ### post -/

@[simp] theorem State.post_loading (l : LinkNo) (f : OutFrame) : (s.post l f).loading = s.loading :=
  State.handOver_loading s l _ _
@[simp] theorem State.post_bankA (l : LinkNo) (f : OutFrame) : (s.post l f).bankA = s.bankA :=
  State.handOver_bankA s l _ _
@[simp] theorem State.post_bankB (l : LinkNo) (f : OutFrame) : (s.post l f).bankB = s.bankB :=
  State.handOver_bankB s l _ _
@[simp] theorem State.post_active (l : LinkNo) (f : OutFrame) : (s.post l f).active = s.active :=
  State.handOver_active s l _ _
@[simp] theorem State.post_copyState (l : LinkNo) (f : OutFrame) : (s.post l f).copyState = s.copyState :=
  State.handOver_copyState s l _ _
@[simp] theorem State.post_frozen (l : LinkNo) (f : OutFrame) : (s.post l f).frozen = s.frozen :=
  State.handOver_frozen s l _ _
@[simp] theorem State.post_records (l : LinkNo) (f : OutFrame) : (s.post l f).records = s.records :=
  State.handOver_records s l _ _
@[simp] theorem State.post_pointers (l : LinkNo) (f : OutFrame) : (s.post l f).pointers = s.pointers :=
  State.handOver_pointers s l _ _
@[simp] theorem State.post_maskMap (l : LinkNo) (f : OutFrame) : (s.post l f).maskMap = s.maskMap :=
  State.handOver_maskMap s l _ _
@[simp] theorem State.post_latches (l : LinkNo) (f : OutFrame) : (s.post l f).latches = s.latches :=
  State.handOver_latches s l _ _
@[simp] theorem State.post_targets (l : LinkNo) (f : OutFrame) : (s.post l f).targets = s.targets :=
  State.handOver_targets s l _ _
@[simp] theorem State.post_timers (l : LinkNo) (f : OutFrame) : (s.post l f).timers = s.timers :=
  State.handOver_timers s l _ _
@[simp] theorem State.post_faults (l : LinkNo) (f : OutFrame) : (s.post l f).faults = s.faults :=
  State.handOver_faults s l _ _
@[simp] theorem State.post_lostFaults (l : LinkNo) (f : OutFrame) : (s.post l f).lostFaults = s.lostFaults :=
  State.handOver_lostFaults s l _ _
@[simp] theorem State.post_raised (l : LinkNo) (f : OutFrame) : (s.post l f).raised = s.raised :=
  State.handOver_raised s l _ _
@[simp] theorem State.post_queue (l : LinkNo) (f : OutFrame) : (s.post l f).queue = s.queue :=
  State.handOver_queue s l _ _
@[simp] theorem State.post_current (l : LinkNo) (f : OutFrame) : (s.post l f).current = s.current :=
  State.handOver_current s l _ _
@[simp] theorem State.post_saveRecord (l : LinkNo) (f : OutFrame) : (s.post l f).saveRecord = s.saveRecord :=
  State.handOver_saveRecord s l _ _
@[simp] theorem State.post_slots (l : LinkNo) (f : OutFrame) : (s.post l f).slots = s.slots :=
  State.handOver_slots s l _ _
@[simp] theorem State.post_summary (l : LinkNo) (f : OutFrame) : (s.post l f).summary = s.summary :=
  State.handOver_summary s l _ _
@[simp] theorem State.post_saving (l : LinkNo) (f : OutFrame) : (s.post l f).saving = s.saving :=
  State.handOver_saving s l _ _
@[simp] theorem State.post_loaded (l : LinkNo) (f : OutFrame) : (s.post l f).loaded = s.loaded :=
  State.handOver_loaded s l _ _
@[simp] theorem State.post_draws (l : LinkNo) (f : OutFrame) : (s.post l f).draws = s.draws :=
  State.handOver_draws s l _ _
@[simp] theorem State.post_arriving (l : LinkNo) (f : OutFrame) : (s.post l f).arriving = s.arriving :=
  State.handOver_arriving s l _ _
@[simp] theorem State.post_presented (l : LinkNo) (f : OutFrame) : (s.post l f).presented = s.presented :=
  State.handOver_presented s l _ _
@[simp] theorem State.post_pending (l : LinkNo) (f : OutFrame) : (s.post l f).pending = s.pending :=
  State.handOver_pending s l _ _

/-! ### raiseEvent -/

@[simp] theorem State.raiseEvent_loading (e : RouterEvent) (w : Word) : (s.raiseEvent e w).loading = s.loading :=
  by unfold State.raiseEvent; split <;> rfl
@[simp] theorem State.raiseEvent_bankA (e : RouterEvent) (w : Word) : (s.raiseEvent e w).bankA = s.bankA :=
  by unfold State.raiseEvent; split <;> rfl
@[simp] theorem State.raiseEvent_bankB (e : RouterEvent) (w : Word) : (s.raiseEvent e w).bankB = s.bankB :=
  by unfold State.raiseEvent; split <;> rfl
@[simp] theorem State.raiseEvent_active (e : RouterEvent) (w : Word) : (s.raiseEvent e w).active = s.active :=
  by unfold State.raiseEvent; split <;> rfl
@[simp] theorem State.raiseEvent_copyState (e : RouterEvent) (w : Word) : (s.raiseEvent e w).copyState = s.copyState :=
  by unfold State.raiseEvent; split <;> rfl
@[simp] theorem State.raiseEvent_frozen (e : RouterEvent) (w : Word) : (s.raiseEvent e w).frozen = s.frozen :=
  by unfold State.raiseEvent; split <;> rfl
@[simp] theorem State.raiseEvent_records (e : RouterEvent) (w : Word) : (s.raiseEvent e w).records = s.records :=
  by unfold State.raiseEvent; split <;> rfl
@[simp] theorem State.raiseEvent_pointers (e : RouterEvent) (w : Word) : (s.raiseEvent e w).pointers = s.pointers :=
  by unfold State.raiseEvent; split <;> rfl
@[simp] theorem State.raiseEvent_maskMap (e : RouterEvent) (w : Word) : (s.raiseEvent e w).maskMap = s.maskMap :=
  by unfold State.raiseEvent; split <;> rfl
@[simp] theorem State.raiseEvent_latches (e : RouterEvent) (w : Word) : (s.raiseEvent e w).latches = s.latches :=
  by unfold State.raiseEvent; split <;> rfl
@[simp] theorem State.raiseEvent_targets (e : RouterEvent) (w : Word) : (s.raiseEvent e w).targets = s.targets :=
  by unfold State.raiseEvent; split <;> rfl
@[simp] theorem State.raiseEvent_timers (e : RouterEvent) (w : Word) : (s.raiseEvent e w).timers = s.timers :=
  by unfold State.raiseEvent; split <;> rfl
@[simp] theorem State.raiseEvent_faults (e : RouterEvent) (w : Word) : (s.raiseEvent e w).faults = s.faults :=
  by unfold State.raiseEvent; split <;> rfl
@[simp] theorem State.raiseEvent_lostFaults (e : RouterEvent) (w : Word) : (s.raiseEvent e w).lostFaults = s.lostFaults :=
  by unfold State.raiseEvent; split <;> rfl
@[simp] theorem State.raiseEvent_links (e : RouterEvent) (w : Word) : (s.raiseEvent e w).links = s.links :=
  by unfold State.raiseEvent; split <;> rfl
@[simp] theorem State.raiseEvent_queue (e : RouterEvent) (w : Word) : (s.raiseEvent e w).queue = s.queue :=
  by unfold State.raiseEvent; split <;> rfl
@[simp] theorem State.raiseEvent_current (e : RouterEvent) (w : Word) : (s.raiseEvent e w).current = s.current :=
  by unfold State.raiseEvent; split <;> rfl
@[simp] theorem State.raiseEvent_saveRecord (e : RouterEvent) (w : Word) : (s.raiseEvent e w).saveRecord = s.saveRecord :=
  by unfold State.raiseEvent; split <;> rfl
@[simp] theorem State.raiseEvent_slots (e : RouterEvent) (w : Word) : (s.raiseEvent e w).slots = s.slots :=
  by unfold State.raiseEvent; split <;> rfl
@[simp] theorem State.raiseEvent_summary (e : RouterEvent) (w : Word) : (s.raiseEvent e w).summary = s.summary :=
  by unfold State.raiseEvent; split <;> rfl
@[simp] theorem State.raiseEvent_saving (e : RouterEvent) (w : Word) : (s.raiseEvent e w).saving = s.saving :=
  by unfold State.raiseEvent; split <;> rfl
@[simp] theorem State.raiseEvent_loaded (e : RouterEvent) (w : Word) : (s.raiseEvent e w).loaded = s.loaded :=
  by unfold State.raiseEvent; split <;> rfl
@[simp] theorem State.raiseEvent_draws (e : RouterEvent) (w : Word) : (s.raiseEvent e w).draws = s.draws :=
  by unfold State.raiseEvent; split <;> rfl
@[simp] theorem State.raiseEvent_arriving (e : RouterEvent) (w : Word) : (s.raiseEvent e w).arriving = s.arriving :=
  by unfold State.raiseEvent; split <;> rfl
@[simp] theorem State.raiseEvent_presented (e : RouterEvent) (w : Word) : (s.raiseEvent e w).presented = s.presented :=
  by unfold State.raiseEvent; split <;> rfl
@[simp] theorem State.raiseEvent_pending (e : RouterEvent) (w : Word) : (s.raiseEvent e w).pending = s.pending :=
  by unfold State.raiseEvent; split <;> rfl

/-! ### recordFault -/

@[simp] theorem State.recordFault_loading (r : FaultRecord) : (s.recordFault r).loading = s.loading :=
  by unfold State.recordFault; split <;> rfl
@[simp] theorem State.recordFault_bankA (r : FaultRecord) : (s.recordFault r).bankA = s.bankA :=
  by unfold State.recordFault; split <;> rfl
@[simp] theorem State.recordFault_bankB (r : FaultRecord) : (s.recordFault r).bankB = s.bankB :=
  by unfold State.recordFault; split <;> rfl
@[simp] theorem State.recordFault_active (r : FaultRecord) : (s.recordFault r).active = s.active :=
  by unfold State.recordFault; split <;> rfl
@[simp] theorem State.recordFault_copyState (r : FaultRecord) : (s.recordFault r).copyState = s.copyState :=
  by unfold State.recordFault; split <;> rfl
@[simp] theorem State.recordFault_frozen (r : FaultRecord) : (s.recordFault r).frozen = s.frozen :=
  by unfold State.recordFault; split <;> rfl
@[simp] theorem State.recordFault_records (r : FaultRecord) : (s.recordFault r).records = s.records :=
  by unfold State.recordFault; split <;> rfl
@[simp] theorem State.recordFault_pointers (r : FaultRecord) : (s.recordFault r).pointers = s.pointers :=
  by unfold State.recordFault; split <;> rfl
@[simp] theorem State.recordFault_maskMap (r : FaultRecord) : (s.recordFault r).maskMap = s.maskMap :=
  by unfold State.recordFault; split <;> rfl
@[simp] theorem State.recordFault_latches (r : FaultRecord) : (s.recordFault r).latches = s.latches :=
  by unfold State.recordFault; split <;> rfl
@[simp] theorem State.recordFault_targets (r : FaultRecord) : (s.recordFault r).targets = s.targets :=
  by unfold State.recordFault; split <;> rfl
@[simp] theorem State.recordFault_timers (r : FaultRecord) : (s.recordFault r).timers = s.timers :=
  by unfold State.recordFault; split <;> rfl
@[simp] theorem State.recordFault_raised (r : FaultRecord) : (s.recordFault r).raised = s.raised :=
  by unfold State.recordFault; split <;> rfl
@[simp] theorem State.recordFault_links (r : FaultRecord) : (s.recordFault r).links = s.links :=
  by unfold State.recordFault; split <;> rfl
@[simp] theorem State.recordFault_queue (r : FaultRecord) : (s.recordFault r).queue = s.queue :=
  by unfold State.recordFault; split <;> rfl
@[simp] theorem State.recordFault_current (r : FaultRecord) : (s.recordFault r).current = s.current :=
  by unfold State.recordFault; split <;> rfl
@[simp] theorem State.recordFault_saveRecord (r : FaultRecord) : (s.recordFault r).saveRecord = s.saveRecord :=
  by unfold State.recordFault; split <;> rfl
@[simp] theorem State.recordFault_slots (r : FaultRecord) : (s.recordFault r).slots = s.slots :=
  by unfold State.recordFault; split <;> rfl
@[simp] theorem State.recordFault_summary (r : FaultRecord) : (s.recordFault r).summary = s.summary :=
  by unfold State.recordFault; split <;> rfl
@[simp] theorem State.recordFault_saving (r : FaultRecord) : (s.recordFault r).saving = s.saving :=
  by unfold State.recordFault; split <;> rfl
@[simp] theorem State.recordFault_loaded (r : FaultRecord) : (s.recordFault r).loaded = s.loaded :=
  by unfold State.recordFault; split <;> rfl
@[simp] theorem State.recordFault_draws (r : FaultRecord) : (s.recordFault r).draws = s.draws :=
  by unfold State.recordFault; split <;> rfl
@[simp] theorem State.recordFault_arriving (r : FaultRecord) : (s.recordFault r).arriving = s.arriving :=
  by unfold State.recordFault; split <;> rfl
@[simp] theorem State.recordFault_presented (r : FaultRecord) : (s.recordFault r).presented = s.presented :=
  by unfold State.recordFault; split <;> rfl
@[simp] theorem State.recordFault_pending (r : FaultRecord) : (s.recordFault r).pending = s.pending :=
  by unfold State.recordFault; split <;> rfl

/-! ### report -/

@[simp] theorem State.report_loading (r : FaultRecord) (marked : Bool) : (s.report r marked).loading = s.loading :=
  by unfold State.report; split <;> simp
@[simp] theorem State.report_bankA (r : FaultRecord) (marked : Bool) : (s.report r marked).bankA = s.bankA :=
  by unfold State.report; split <;> simp
@[simp] theorem State.report_bankB (r : FaultRecord) (marked : Bool) : (s.report r marked).bankB = s.bankB :=
  by unfold State.report; split <;> simp
@[simp] theorem State.report_active (r : FaultRecord) (marked : Bool) : (s.report r marked).active = s.active :=
  by unfold State.report; split <;> simp
@[simp] theorem State.report_copyState (r : FaultRecord) (marked : Bool) : (s.report r marked).copyState = s.copyState :=
  by unfold State.report; split <;> simp
@[simp] theorem State.report_frozen (r : FaultRecord) (marked : Bool) : (s.report r marked).frozen = s.frozen :=
  by unfold State.report; split <;> simp
@[simp] theorem State.report_records (r : FaultRecord) (marked : Bool) : (s.report r marked).records = s.records :=
  by unfold State.report; split <;> simp
@[simp] theorem State.report_pointers (r : FaultRecord) (marked : Bool) : (s.report r marked).pointers = s.pointers :=
  by unfold State.report; split <;> simp
@[simp] theorem State.report_maskMap (r : FaultRecord) (marked : Bool) : (s.report r marked).maskMap = s.maskMap :=
  by unfold State.report; split <;> simp
@[simp] theorem State.report_latches (r : FaultRecord) (marked : Bool) : (s.report r marked).latches = s.latches :=
  by unfold State.report; split <;> simp
@[simp] theorem State.report_targets (r : FaultRecord) (marked : Bool) : (s.report r marked).targets = s.targets :=
  by unfold State.report; split <;> simp
@[simp] theorem State.report_timers (r : FaultRecord) (marked : Bool) : (s.report r marked).timers = s.timers :=
  by unfold State.report; split <;> simp
@[simp] theorem State.report_links (r : FaultRecord) (marked : Bool) : (s.report r marked).links = s.links :=
  by unfold State.report; split <;> simp
@[simp] theorem State.report_queue (r : FaultRecord) (marked : Bool) : (s.report r marked).queue = s.queue :=
  by unfold State.report; split <;> simp
@[simp] theorem State.report_current (r : FaultRecord) (marked : Bool) : (s.report r marked).current = s.current :=
  by unfold State.report; split <;> simp
@[simp] theorem State.report_saveRecord (r : FaultRecord) (marked : Bool) : (s.report r marked).saveRecord = s.saveRecord :=
  by unfold State.report; split <;> simp
@[simp] theorem State.report_slots (r : FaultRecord) (marked : Bool) : (s.report r marked).slots = s.slots :=
  by unfold State.report; split <;> simp
@[simp] theorem State.report_summary (r : FaultRecord) (marked : Bool) : (s.report r marked).summary = s.summary :=
  by unfold State.report; split <;> simp
@[simp] theorem State.report_saving (r : FaultRecord) (marked : Bool) : (s.report r marked).saving = s.saving :=
  by unfold State.report; split <;> simp
@[simp] theorem State.report_loaded (r : FaultRecord) (marked : Bool) : (s.report r marked).loaded = s.loaded :=
  by unfold State.report; split <;> simp
@[simp] theorem State.report_draws (r : FaultRecord) (marked : Bool) : (s.report r marked).draws = s.draws :=
  by unfold State.report; split <;> simp
@[simp] theorem State.report_arriving (r : FaultRecord) (marked : Bool) : (s.report r marked).arriving = s.arriving :=
  by unfold State.report; split <;> simp
@[simp] theorem State.report_presented (r : FaultRecord) (marked : Bool) : (s.report r marked).presented = s.presented :=
  by unfold State.report; split <;> simp
@[simp] theorem State.report_pending (r : FaultRecord) (marked : Bool) : (s.report r marked).pending = s.pending :=
  by unfold State.report; split <;> simp

/-! ### setBank -/

@[simp] theorem State.setBank_loading (n : BankName) (b : Bank) : (s.setBank n b).loading = s.loading :=
  by cases n <;> rfl
@[simp] theorem State.setBank_active (n : BankName) (b : Bank) : (s.setBank n b).active = s.active :=
  by cases n <;> rfl
@[simp] theorem State.setBank_copyState (n : BankName) (b : Bank) : (s.setBank n b).copyState = s.copyState :=
  by cases n <;> rfl
@[simp] theorem State.setBank_frozen (n : BankName) (b : Bank) : (s.setBank n b).frozen = s.frozen :=
  by cases n <;> rfl
@[simp] theorem State.setBank_records (n : BankName) (b : Bank) : (s.setBank n b).records = s.records :=
  by cases n <;> rfl
@[simp] theorem State.setBank_pointers (n : BankName) (b : Bank) : (s.setBank n b).pointers = s.pointers :=
  by cases n <;> rfl
@[simp] theorem State.setBank_maskMap (n : BankName) (b : Bank) : (s.setBank n b).maskMap = s.maskMap :=
  by cases n <;> rfl
@[simp] theorem State.setBank_latches (n : BankName) (b : Bank) : (s.setBank n b).latches = s.latches :=
  by cases n <;> rfl
@[simp] theorem State.setBank_targets (n : BankName) (b : Bank) : (s.setBank n b).targets = s.targets :=
  by cases n <;> rfl
@[simp] theorem State.setBank_timers (n : BankName) (b : Bank) : (s.setBank n b).timers = s.timers :=
  by cases n <;> rfl
@[simp] theorem State.setBank_faults (n : BankName) (b : Bank) : (s.setBank n b).faults = s.faults :=
  by cases n <;> rfl
@[simp] theorem State.setBank_lostFaults (n : BankName) (b : Bank) : (s.setBank n b).lostFaults = s.lostFaults :=
  by cases n <;> rfl
@[simp] theorem State.setBank_raised (n : BankName) (b : Bank) : (s.setBank n b).raised = s.raised :=
  by cases n <;> rfl
@[simp] theorem State.setBank_links (n : BankName) (b : Bank) : (s.setBank n b).links = s.links :=
  by cases n <;> rfl
@[simp] theorem State.setBank_queue (n : BankName) (b : Bank) : (s.setBank n b).queue = s.queue :=
  by cases n <;> rfl
@[simp] theorem State.setBank_current (n : BankName) (b : Bank) : (s.setBank n b).current = s.current :=
  by cases n <;> rfl
@[simp] theorem State.setBank_saveRecord (n : BankName) (b : Bank) : (s.setBank n b).saveRecord = s.saveRecord :=
  by cases n <;> rfl
@[simp] theorem State.setBank_slots (n : BankName) (b : Bank) : (s.setBank n b).slots = s.slots :=
  by cases n <;> rfl
@[simp] theorem State.setBank_summary (n : BankName) (b : Bank) : (s.setBank n b).summary = s.summary :=
  by cases n <;> rfl
@[simp] theorem State.setBank_saving (n : BankName) (b : Bank) : (s.setBank n b).saving = s.saving :=
  by cases n <;> rfl
@[simp] theorem State.setBank_loaded (n : BankName) (b : Bank) : (s.setBank n b).loaded = s.loaded :=
  by cases n <;> rfl
@[simp] theorem State.setBank_draws (n : BankName) (b : Bank) : (s.setBank n b).draws = s.draws :=
  by cases n <;> rfl
@[simp] theorem State.setBank_arriving (n : BankName) (b : Bank) : (s.setBank n b).arriving = s.arriving :=
  by cases n <;> rfl
@[simp] theorem State.setBank_presented (n : BankName) (b : Bank) : (s.setBank n b).presented = s.presented :=
  by cases n <;> rfl
@[simp] theorem State.setBank_pending (n : BankName) (b : Bank) : (s.setBank n b).pending = s.pending :=
  by cases n <;> rfl

end Sys2Proof.Machine
end

