-- ==== Sys2Proof/Laws/Frame.lean ====
section
/-! SUPPORT. What the shared operations leave alone. `State.still` is the part of the state that no
delivery, fault or session operation touches, `State.apart` the queue, latches and pointers, and
`State.cores` every link but for its transmit list. -/

namespace Sys2Proof.Machine

/-- The fields that only table, image, request and arrival commands change. -/
structure Still where
  loading : Bool
  bankA : Bank
  bankB : Bank
  active : BankName
  copyState : CopyState
  frozen : Bool
  maskMap : Vector Bool 512
  timers : Vector TimerRecord 4
  current : Option CurrentRequest
  saveRecord : Option SaveRecord
  slots : Vector Slot 2
  summary : Vector (Option Word) 2
  saving : Option SaveRun
  arriving : Vector (Option PassedEvent) 12
  presented : Option Raised
  loaded : Option LoadedImage
  draws : Nat
  pending : List Instr

/-- The still part of a state. -/
def State.still (s : State) : Still :=
  { loading := s.loading, bankA := s.bankA, bankB := s.bankB, active := s.active,
    copyState := s.copyState, frozen := s.frozen, maskMap := s.maskMap, timers := s.timers,
    current := s.current, saveRecord := s.saveRecord, slots := s.slots, summary := s.summary,
    saving := s.saving, arriving := s.arriving, presented := s.presented, loaded := s.loaded, draws := s.draws, pending := s.pending }

/-- The management queue, the latches and the rotation pointers. -/
def State.apart (s : State) :
    List Request × Vector (Option Origin) 512 × Vector (Option TargetNo) 512 :=
  (s.queue, s.latches, s.pointers)

/-- A link but for its transmit list. -/
def Link.core (k : Link) : Link :=
  { k with transmit := [] }

/-- Every link but for its transmit list. -/
def State.cores (s : State) : Vector Link 16 :=
  s.links.map Link.core

variable (s : State)

/-! ## Primitive updates -/

@[simp] theorem State.modLink_still (l : LinkNo) (f : Link → Link) : (s.modLink l f).still = s.still := rfl
@[simp] theorem State.modLink_apart (l : LinkNo) (f : Link → Link) : (s.modLink l f).apart = s.apart := rfl
@[simp] theorem State.modTarget_still (t : TargetNo) (f : Target → Target) :
    (s.modTarget t f).still = s.still := rfl
@[simp] theorem State.modTarget_apart (t : TargetNo) (f : Target → Target) :
    (s.modTarget t f).apart = s.apart := rfl
@[simp] theorem State.modTarget_cores (t : TargetNo) (f : Target → Target) :
    (s.modTarget t f).cores = s.cores := rfl
@[simp] theorem State.setRecords_still (rs : List Record) : (s.setRecords rs).still = s.still := rfl
@[simp] theorem State.setRecords_apart (rs : List Record) : (s.setRecords rs).apart = s.apart := rfl
@[simp] theorem State.setRecords_cores (rs : List Record) : (s.setRecords rs).cores = s.cores := rfl
@[simp] theorem State.freeRecord_still (n : SlotNo) : (s.freeRecord n).still = s.still := rfl
@[simp] theorem State.freeRecord_apart (n : SlotNo) : (s.freeRecord n).apart = s.apart := rfl
@[simp] theorem State.freeRecord_cores (n : SlotNo) : (s.freeRecord n).cores = s.cores := rfl
@[simp] theorem State.changeRecord_still (n : SlotNo) (f : Record → Record) :
    (s.changeRecord n f).still = s.still := rfl
@[simp] theorem State.changeRecord_apart (n : SlotNo) (f : Record → Record) :
    (s.changeRecord n f).apart = s.apart := rfl
@[simp] theorem State.changeRecord_cores (n : SlotNo) (f : Record → Record) :
    (s.changeRecord n f).cores = s.cores := rfl
@[simp] theorem State.finish_still (l : LinkNo) : (s.finish l).still = s.still := rfl
@[simp] theorem State.finish_apart (l : LinkNo) : (s.finish l).apart = s.apart := rfl
@[simp] theorem State.finishFrame_still (l : LinkNo) (p : InFrame → Bool) :
    (s.finishFrame l p).still = s.still := rfl
@[simp] theorem State.finishFrame_apart (l : LinkNo) (p : InFrame → Bool) :
    (s.finishFrame l p).apart = s.apart := rfl

/-- A change of a link that keeps its core keeps every core. -/
theorem State.modLink_cores (l : LinkNo) (f : Link → Link) (h : (f s.links[l]).core = s.links[l].core) :
    (s.modLink l f).cores = s.cores := by
  unfold State.cores State.modLink
  ext k hk : 1
  simp only [Vector.getElem_map, Vector.getElem_set]
  split
  · next heq => subst heq; exact h
  · rfl

/-! ## Sending and reporting -/

@[simp] theorem State.handOver_still (l : LinkNo) (n : Nat) (q : Queued) :
    (s.handOver l n q).still = s.still := by
  unfold State.handOver; split <;> rfl
@[simp] theorem State.handOver_apart (l : LinkNo) (n : Nat) (q : Queued) :
    (s.handOver l n q).apart = s.apart := by
  unfold State.handOver; split <;> rfl
@[simp] theorem State.handOver_cores (l : LinkNo) (n : Nat) (q : Queued) :
    (s.handOver l n q).cores = s.cores := by
  unfold State.handOver; split
  · exact State.modLink_cores s l _ rfl
  · rfl
@[simp] theorem State.post_still (l : LinkNo) (f : OutFrame) : (s.post l f).still = s.still :=
  State.handOver_still s l _ _
@[simp] theorem State.post_apart (l : LinkNo) (f : OutFrame) : (s.post l f).apart = s.apart :=
  State.handOver_apart s l _ _
@[simp] theorem State.post_cores (l : LinkNo) (f : OutFrame) : (s.post l f).cores = s.cores :=
  State.handOver_cores s l _ _
@[simp] theorem State.raiseEvent_still (e : RouterEvent) (w : Word) :
    (s.raiseEvent e w).still = s.still := by
  unfold State.raiseEvent; split <;> rfl
@[simp] theorem State.raiseEvent_apart (e : RouterEvent) (w : Word) :
    (s.raiseEvent e w).apart = s.apart := by
  unfold State.raiseEvent; split <;> rfl
@[simp] theorem State.raiseEvent_cores (e : RouterEvent) (w : Word) :
    (s.raiseEvent e w).cores = s.cores := by
  unfold State.raiseEvent; split <;> rfl
@[simp] theorem State.report_still (r : FaultRecord) (b : Bool) : (s.report r b).still = s.still := by
  unfold State.report State.recordFault; split <;> (try simp) <;> split <;> rfl
@[simp] theorem State.report_apart (r : FaultRecord) (b : Bool) : (s.report r b).apart = s.apart := by
  unfold State.report State.recordFault; split <;> (try simp) <;> split <;> rfl
@[simp] theorem State.report_cores (r : FaultRecord) (b : Bool) : (s.report r b).cores = s.cores := by
  unfold State.report State.recordFault; split <;> (try simp) <;> split <;> rfl

/-! ## Offers and wakes -/

@[simp] theorem State.makeOffer_still (t : TargetNo) (r : Record) : (s.makeOffer t r).still = s.still := by
  simp [State.makeOffer]
@[simp] theorem State.makeOffer_apart (t : TargetNo) (r : Record) : (s.makeOffer t r).apart = s.apart := by
  simp [State.makeOffer]
@[simp] theorem State.makeOffer_cores (t : TargetNo) (r : Record) : (s.makeOffer t r).cores = s.cores := by
  simp [State.makeOffer]
@[simp] theorem State.reexamine_still (t : TargetNo) : (s.reexamine t).still = s.still := by
  unfold State.reexamine; repeat' split
  all_goals simp
@[simp] theorem State.reexamine_apart (t : TargetNo) : (s.reexamine t).apart = s.apart := by
  unfold State.reexamine; repeat' split
  all_goals simp
@[simp] theorem State.reexamine_cores (t : TargetNo) : (s.reexamine t).cores = s.cores := by
  unfold State.reexamine; repeat' split
  all_goals simp
@[simp] theorem State.sendWake_still (t : TargetNo) (l : Level) : (s.sendWake t l).still = s.still := by
  simp [State.sendWake]
@[simp] theorem State.sendWake_apart (t : TargetNo) (l : Level) : (s.sendWake t l).apart = s.apart := by
  simp [State.sendWake]
@[simp] theorem State.sendWake_cores (t : TargetNo) (l : Level) : (s.sendWake t l).cores = s.cores := by
  simp [State.sendWake]
@[simp] theorem State.notify_still (t : TargetNo) (l : Level) : (s.notify t l).still = s.still := by
  unfold State.notify; repeat' split
  all_goals simp
@[simp] theorem State.notify_apart (t : TargetNo) (l : Level) : (s.notify t l).apart = s.apart := by
  unfold State.notify; repeat' split
  all_goals simp
@[simp] theorem State.notify_cores (t : TargetNo) (l : Level) : (s.notify t l).cores = s.cores := by
  unfold State.notify; repeat' split
  all_goals simp
@[simp] theorem State.enterReady_still (t : TargetNo) : (s.enterReady t).still = s.still := by
  simp [State.enterReady]
@[simp] theorem State.enterReady_apart (t : TargetNo) : (s.enterReady t).apart = s.apart := by
  simp [State.enterReady]
@[simp] theorem State.enterReady_cores (t : TargetNo) : (s.enterReady t).cores = s.cores := by
  simp [State.enterReady]

/-! ## Folding and withdrawal -/

@[simp] theorem State.foldInto_still (r : Record) (n : Nat) (p : List Word) (o : Origin) :
    (s.foldInto r n p o).still = s.still := by
  unfold State.foldInto; dsimp only; split <;> simp
@[simp] theorem State.foldInto_apart (r : Record) (n : Nat) (p : List Word) (o : Origin) :
    (s.foldInto r n p o).apart = s.apart := by
  unfold State.foldInto; dsimp only; split <;> simp
@[simp] theorem State.foldInto_cores (r : Record) (n : Nat) (p : List Word) (o : Origin) :
    (s.foldInto r n p o).cores = s.cores := by
  unfold State.foldInto; dsimp only; split <;> simp
@[simp] theorem State.withdraw_still (r : Record) : (s.withdraw r).still = s.still := by
  unfold State.withdraw; dsimp only; split <;> simp
@[simp] theorem State.withdraw_apart (r : Record) : (s.withdraw r).apart = s.apart := by
  unfold State.withdraw; dsimp only; split <;> simp
@[simp] theorem State.withdraw_cores (r : Record) : (s.withdraw r).cores = s.cores := by
  unfold State.withdraw; dsimp only; split <;> simp
@[simp] theorem State.sendErr_still (t : TargetNo) (e : ErrReason) (v : Byte) (i : Option Index) :
    (s.sendErr t e v i).still = s.still := by
  simp [State.sendErr]
@[simp] theorem State.sendErr_apart (t : TargetNo) (e : ErrReason) (v : Byte) (i : Option Index) :
    (s.sendErr t e v i).apart = s.apart := by
  simp [State.sendErr]
@[simp] theorem State.sendErr_cores (t : TargetNo) (e : ErrReason) (v : Byte) (i : Option Index) :
    (s.sendErr t e v i).cores = s.cores := by
  simp [State.sendErr]

/-! ## Placement -/

@[simp] theorem State.placeFor_still (i : Index) (e : Entry) (o : Origin) (p : List Word) (t : TargetNo) :
    (s.placeFor i e o p t).still = s.still := by
  unfold State.placeFor; repeat' split
  all_goals simp
@[simp] theorem State.placeFor_apart (i : Index) (e : Entry) (o : Origin) (p : List Word) (t : TargetNo) :
    (s.placeFor i e o p t).apart = s.apart := by
  unfold State.placeFor; repeat' split
  all_goals simp
@[simp] theorem State.placeFor_cores (i : Index) (e : Entry) (o : Origin) (p : List Word) (t : TargetNo) :
    (s.placeFor i e o p t).cores = s.cores := by
  unfold State.placeFor; repeat' split
  all_goals simp

/-- A fold over targets keeps what each of its steps keeps. -/
theorem foldl_keeps {α β : Type} (f : State → α → State) (g : State → β)
    (h : ∀ x a, g (f x a) = g x) (as : List α) (x : State) : g (as.foldl f x) = g x := by
  induction as generalizing x with
  | nil => rfl
  | cons a as ih => simp [ih, h]

@[simp] theorem State.place_still (i : Index) (e : Entry) (o : Origin) (p : List Word)
    (chosen order : List TargetNo) : (s.place i e o p chosen order).still = s.still := by
  have h1 := fun x => foldl_keeps (fun x t => State.placeFor x i e o p t) State.still (by simp)
    (takenOrder order chosen) x
  have h2 := fun x => foldl_keeps (fun x t => State.notify x t (s.reachedLevel i e t)) State.still (by simp)
    (takenOrder order chosen) x
  unfold State.place; dsimp only
  split
  · exact (h2 _).trans (h1 _)
  · exact (h2 _).trans (h1 _)

@[simp] theorem State.place_cores (i : Index) (e : Entry) (o : Origin) (p : List Word)
    (chosen order : List TargetNo) : (s.place i e o p chosen order).cores = s.cores := by
  have h1 := fun x => foldl_keeps (fun x t => State.placeFor x i e o p t) State.cores (by simp)
    (takenOrder order chosen) x
  have h2 := fun x => foldl_keeps (fun x t => State.notify x t (s.reachedLevel i e t)) State.cores (by simp)
    (takenOrder order chosen) x
  unfold State.place; dsimp only
  split
  · exact (h2 _).trans (h1 _)
  · exact (h2 _).trans (h1 _)

/-- A placement keeps the queue and the latches; it moves the pointer of a ROTATE entry alone. -/
theorem State.place_apart (i : Index) (e : Entry) (o : Origin) (p : List Word)
    (chosen order : List TargetNo) :
    (s.place i e o p chosen order).apart =
      (s.queue, s.latches,
        match e.distribution, chosen.head? with
        | .rotate, some t => s.pointers.set i (some t)
        | _, _ => s.pointers) := by
  have h1 := fun x => foldl_keeps (fun x t => State.placeFor x i e o p t) State.apart (by simp)
    (takenOrder order chosen) x
  have h2 := fun x => foldl_keeps (fun x t => State.notify x t (s.reachedLevel i e t)) State.apart (by simp)
    (takenOrder order chosen) x
  have h := (h2 _).trans (h1 s)
  unfold State.apart at h
  simp only [Prod.mk.injEq] at h
  unfold State.place State.apart; dsimp only
  cases e.distribution <;> cases chosen.head? <;> simp [h.1, h.2.1, h.2.2]

@[simp] theorem State.refuseArrival_still (o : Origin) (x : RefusalReason) (t : Option TargetNo)
    (i : Option Index) (v : Nat) : (s.refuseArrival o x t i v).1.still = s.still := by
  simp [State.refuseArrival]
@[simp] theorem State.refuseArrival_apart (o : Origin) (x : RefusalReason) (t : Option TargetNo)
    (i : Option Index) (v : Nat) : (s.refuseArrival o x t i v).1.apart = s.apart := by
  simp [State.refuseArrival]
@[simp] theorem State.refuseArrival_cores (o : Origin) (x : RefusalReason) (t : Option TargetNo)
    (i : Option Index) (v : Nat) : (s.refuseArrival o x t i v).1.cores = s.cores := by
  simp [State.refuseArrival]
@[simp] theorem State.arriveAt_still (a : Arrival) (order : List TargetNo) (i : Index) (e : Entry) :
    (s.arriveAt a order i e).1.still = s.still := by
  unfold State.arriveAt; repeat' (first | split | dsimp only)
  all_goals first | rfl | simp
@[simp] theorem State.arriveAt_cores (a : Arrival) (order : List TargetNo) (i : Index) (e : Entry) :
    (s.arriveAt a order i e).1.cores = s.cores := by
  unfold State.arriveAt; repeat' (first | split | dsimp only)
  all_goals first | rfl | simp
@[simp] theorem State.arrive_still (a : Arrival) (order : List TargetNo) :
    (s.arrive a order).1.still = s.still := by
  unfold State.arrive; dsimp only; split <;> simp
@[simp] theorem State.arrive_cores (a : Arrival) (order : List TargetNo) :
    (s.arrive a order).1.cores = s.cores := by
  unfold State.arrive; dsimp only; split <;> simp

/-! ## Taking a target frame -/

@[simp] theorem State.refuseTag_still (t : TargetNo) (tag : Byte) :
    (s.refuseTag t tag).still = s.still := by
  unfold State.refuseTag; split <;> simp
@[simp] theorem State.refuseTag_apart (t : TargetNo) (tag : Byte) :
    (s.refuseTag t tag).apart = s.apart := by
  unfold State.refuseTag; split <;> simp
@[simp] theorem State.refuseTag_cores (t : TargetNo) (tag : Byte) :
    (s.refuseTag t tag).cores = s.cores := by
  unfold State.refuseTag; split <;> simp
@[simp] theorem State.acceptClaim_still (t : TargetNo) (o : Offer) (r : Record) :
    (s.acceptClaim t o r).still = s.still := by
  simp [State.acceptClaim]
@[simp] theorem State.acceptClaim_apart (t : TargetNo) (o : Offer) (r : Record) :
    (s.acceptClaim t o r).apart = s.apart := by
  simp [State.acceptClaim]
@[simp] theorem State.acceptClaim_cores (t : TargetNo) (o : Offer) (r : Record) :
    (s.acceptClaim t o r).cores = s.cores := by
  simp [State.acceptClaim]
@[simp] theorem State.takeClaim_still (t : TargetNo) (tag : Byte) :
    (s.takeClaim t tag).still = s.still := by
  unfold State.takeClaim; repeat' split
  all_goals simp
@[simp] theorem State.takeClaim_apart (t : TargetNo) (tag : Byte) :
    (s.takeClaim t tag).apart = s.apart := by
  unfold State.takeClaim; repeat' split
  all_goals simp
@[simp] theorem State.takeClaim_cores (t : TargetNo) (tag : Byte) :
    (s.takeClaim t tag).cores = s.cores := by
  unfold State.takeClaim; repeat' split
  all_goals simp
@[simp] theorem State.takeRefuse_still (t : TargetNo) (tag : Byte) :
    (s.takeRefuse t tag).still = s.still := by
  unfold State.takeRefuse; repeat' split
  all_goals simp
@[simp] theorem State.takeRefuse_apart (t : TargetNo) (tag : Byte) :
    (s.takeRefuse t tag).apart = s.apart := by
  unfold State.takeRefuse; repeat' split
  all_goals simp
@[simp] theorem State.takeRefuse_cores (t : TargetNo) (tag : Byte) :
    (s.takeRefuse t tag).cores = s.cores := by
  unfold State.takeRefuse; repeat' split
  all_goals simp
@[simp] theorem State.takeDone_still (t : TargetNo) (tag : Byte) :
    (s.takeDone t tag).still = s.still := by
  unfold State.takeDone; repeat' split
  all_goals simp
@[simp] theorem State.takeDone_apart (t : TargetNo) (tag : Byte) :
    (s.takeDone t tag).apart = s.apart := by
  unfold State.takeDone; repeat' split
  all_goals simp
@[simp] theorem State.takeDone_cores (t : TargetNo) (tag : Byte) :
    (s.takeDone t tag).cores = s.cores := by
  unfold State.takeDone; repeat' split
  all_goals simp
@[simp] theorem State.takeReady_still (t : TargetNo) :
    (s.takeReady t).still = s.still := by
  unfold State.takeReady; split <;> simp
@[simp] theorem State.takeReady_apart (t : TargetNo) :
    (s.takeReady t).apart = s.apart := by
  unfold State.takeReady; split <;> simp
@[simp] theorem State.takeReady_cores (t : TargetNo) :
    (s.takeReady t).cores = s.cores := by
  unfold State.takeReady; split <;> simp
@[simp] theorem State.takeLevel_still (t : TargetNo) (v : Byte) :
    (s.takeLevel t v).still = s.still := by
  unfold State.takeLevel; split <;> simp
@[simp] theorem State.takeLevel_apart (t : TargetNo) (v : Byte) :
    (s.takeLevel t v).apart = s.apart := by
  unfold State.takeLevel; split <;> simp
@[simp] theorem State.takeLevel_cores (t : TargetNo) (v : Byte) :
    (s.takeLevel t v).cores = s.cores := by
  unfold State.takeLevel; split <;> simp
@[simp] theorem State.enterAsleep_still (t : TargetNo) (w : Level) :
    (s.enterAsleep t w).still = s.still := by
  unfold State.enterAsleep; dsimp only; split <;> simp
@[simp] theorem State.enterAsleep_apart (t : TargetNo) (w : Level) :
    (s.enterAsleep t w).apart = s.apart := by
  unfold State.enterAsleep; dsimp only; split <;> simp
@[simp] theorem State.enterAsleep_cores (t : TargetNo) (w : Level) :
    (s.enterAsleep t w).cores = s.cores := by
  unfold State.enterAsleep; dsimp only; split <;> simp
@[simp] theorem State.takeSleep_still (t : TargetNo) (v : Byte) :
    (s.takeSleep t v).still = s.still := by
  unfold State.takeSleep; repeat' split
  all_goals simp
@[simp] theorem State.takeSleep_apart (t : TargetNo) (v : Byte) :
    (s.takeSleep t v).apart = s.apart := by
  unfold State.takeSleep; repeat' split
  all_goals simp
@[simp] theorem State.takeSleep_cores (t : TargetNo) (v : Byte) :
    (s.takeSleep t v).cores = s.cores := by
  unfold State.takeSleep; repeat' split
  all_goals simp
@[simp] theorem State.takeTargetFrame_still (t : TargetNo) (f : InFrame) :
    (s.takeTargetFrame t f).still = s.still := by
  cases f <;> simp [State.takeTargetFrame]
@[simp] theorem State.takeTargetFrame_apart (t : TargetNo) (f : InFrame) :
    (s.takeTargetFrame t f).apart = s.apart := by
  cases f <;> simp [State.takeTargetFrame]
@[simp] theorem State.takeTargetFrame_cores (t : TargetNo) (f : InFrame) :
    (s.takeTargetFrame t f).cores = s.cores := by
  cases f <;> simp [State.takeTargetFrame]
@[simp] theorem State.finishTargetFrame_still (t : TargetNo) :
    (s.finishTargetFrame t).still = s.still := rfl
@[simp] theorem State.finishTargetFrame_apart (t : TargetNo) :
    (s.finishTargetFrame t).apart = s.apart := rfl
@[simp] theorem State.takeInProgress_still (t : TargetNo) : (s.takeInProgress t).still = s.still := by
  unfold State.takeInProgress; split <;> simp
@[simp] theorem State.takeInProgress_apart (t : TargetNo) : (s.takeInProgress t).apart = s.apart := by
  unfold State.takeInProgress; split <;> simp

/-! ## Sessions -/

@[simp] theorem State.endOffer_still (t : TargetNo) : (s.endOffer t).still = s.still := by
  unfold State.endOffer; repeat' split
  all_goals simp
@[simp] theorem State.endOffer_apart (t : TargetNo) : (s.endOffer t).apart = s.apart := by
  unfold State.endOffer; repeat' split
  all_goals simp
@[simp] theorem State.endOffer_cores (t : TargetNo) : (s.endOffer t).cores = s.cores := by
  unfold State.endOffer; repeat' split
  all_goals simp
@[simp] theorem State.abandonService_still (t : TargetNo) : (s.abandonService t).still = s.still := by
  unfold State.abandonService; split <;> simp
@[simp] theorem State.abandonService_apart (t : TargetNo) : (s.abandonService t).apart = s.apart := by
  unfold State.abandonService; split <;> simp
@[simp] theorem State.abandonService_cores (t : TargetNo) : (s.abandonService t).cores = s.cores := by
  unfold State.abandonService; split <;> simp
@[simp] theorem State.targetSessionEnd_still (t : TargetNo) : (s.targetSessionEnd t).still = s.still := by
  unfold State.targetSessionEnd; split <;> simp
@[simp] theorem State.targetSessionEnd_apart (t : TargetNo) : (s.targetSessionEnd t).apart = s.apart := by
  unfold State.targetSessionEnd; split <;> simp
@[simp] theorem State.targetSessionEnd_cores (t : TargetNo) : (s.targetSessionEnd t).cores = s.cores := by
  unfold State.targetSessionEnd; split <;> simp
@[simp] theorem State.targetSessionStart_still (t : TargetNo) :
    (s.targetSessionStart t).still = s.still := by
  simp [State.targetSessionStart]
@[simp] theorem State.targetSessionStart_apart (t : TargetNo) :
    (s.targetSessionStart t).apart = s.apart := by
  simp [State.targetSessionStart]
@[simp] theorem State.targetSessionStart_cores (t : TargetNo) :
    (s.targetSessionStart t).cores = s.cores := by
  simp [State.targetSessionStart]
@[simp] theorem State.clearSession_still (l : LinkNo) : (s.clearSession l).still = s.still := by
  unfold State.clearSession; dsimp only; split <;> (try simp) <;> rfl
@[simp] theorem State.sessionEnd_still (l : LinkNo) : (s.sessionEnd l).still = s.still := by
  unfold State.sessionEnd; split <;> simp
@[simp] theorem State.sessionStart_still (l : LinkNo) (b : Bool) : (s.sessionStart l b).still = s.still := by
  unfold State.sessionStart; dsimp only; split <;> split <;> simp
@[simp] theorem State.sessionStart_apart (l : LinkNo) (b : Bool) : (s.sessionStart l b).apart = s.apart := by
  unfold State.sessionStart; dsimp only; split <;> split <;> simp
@[simp] theorem State.resetLinkNow_still (l : LinkNo) : (s.resetLinkNow l).still = s.still := by
  unfold State.resetLinkNow; split <;> simp
@[simp] theorem State.checkLimit_still (l : LinkNo) : (s.checkLimit l).still = s.still := by
  unfold State.checkLimit; split <;> simp
@[simp] theorem State.discardWithErr_still (l : LinkNo) (e : ErrReason) (k : Byte) :
    (s.discardWithErr l e k).still = s.still := by
  unfold State.discardWithErr; dsimp only; split <;> simp
@[simp] theorem State.helloUp_still (l : LinkNo) (b : List Byte) : (s.helloUp l b).still = s.still := by
  unfold State.helloUp; repeat' split
  all_goals simp
@[simp] theorem State.helloTraining_still (l : LinkNo) (b : List Byte) :
    (s.helloTraining l b).still = s.still := by
  unfold State.helloTraining; repeat' split
  all_goals simp
@[simp] theorem State.receiveOther_still (l : LinkNo) (w : Wire) :
    (s.receiveOther l w).still = s.still := by
  unfold State.receiveOther; repeat' (first | split | dsimp only)
  all_goals simp [State.countError]
@[simp] theorem State.receive_still (l : LinkNo) (w : Wire) : (s.receive l w).still = s.still := by
  unfold State.receive; repeat' split
  all_goals simp [State.countError]

/-- Receiving a frame touches no field of the still part: no table, mask, timer setting, image or UNMASK. -/
@[simp] theorem State.receiveBytes_still (l : LinkNo) (b : List Byte) :
    (s.receiveBytes l b).still = s.still := by
  unfold State.receiveBytes; split <;> simp

end Sys2Proof.Machine
end

