-- ==== Sys2Proof/Laws/Ops.lean ====
section
/-! SUPPORT. What each shared operation can do, said once: the words of Safety.lean for sending and
finishing, and the cases of reporting, offering, waking, withdrawing, arriving and serving a request. -/

namespace Sys2Proof.Machine

/-! ## Links and targets -/

theorem State.modLink_eq (s : State) (l : LinkNo) (f : Link → Link) :
    s.modLink l f = s.withLink l (f s.links[l]) := rfl

theorem State.modTarget_eq (s : State) (t : TargetNo) (f : Target → Target) :
    s.modTarget t f = s.withTarget t (f s.targets[t]) := rfl

@[simp] theorem State.withLink_self (s : State) (l : LinkNo) (k : Link) :
    (s.withLink l k).links[l] = k := by
  simp [State.withLink]

theorem State.withLink_ne (s : State) {l m : LinkNo} (k : Link) (h : m ≠ l) :
    (s.withLink l k).links[m] = s.links[m] := by
  have : l.val ≠ m.val := fun e => h (Fin.ext e.symm)
  simp [State.withLink, this]

@[simp] theorem State.withTarget_self (s : State) (t : TargetNo) (g : Target) :
    (s.withTarget t g).targets[t] = g := by
  simp [State.withTarget]

theorem State.withTarget_ne (s : State) {t u : TargetNo} (g : Target) (h : u ≠ t) :
    (s.withTarget t g).targets[u] = s.targets[u] := by
  have : t.val ≠ u.val := fun e => h (Fin.ext e.symm)
  simp [State.withTarget, this]

@[simp] theorem State.withLink_withLink (s : State) (l : LinkNo) (k k' : Link) :
    (s.withLink l k).withLink l k' = s.withLink l k' := by
  simp [State.withLink]

@[simp] theorem State.withTarget_withTarget (s : State) (t : TargetNo) (g g' : Target) :
    (s.withTarget t g).withTarget t g' = s.withTarget t g' := by
  simp [State.withTarget]

/-- Putting back the link that is there changes nothing. -/
@[simp] theorem State.withLink_same (s : State) (l : LinkNo) : s.withLink l s.links[l] = s := by
  simp [State.withLink]

/-- Putting back the target that is there changes nothing. -/
@[simp] theorem State.withTarget_same (s : State) (t : TargetNo) : s.withTarget t s.targets[t] = s := by
  simp [State.withTarget]

/-! ## Sending (R148, R152) -/

/-- A frame handed over in the present session of a link in UP joins the transmit list (R148). -/
theorem State.handOver_present {s : State} {l : LinkNo} {n : Nat} (q : Queued) (hu : s.isUp l = true)
    (hn : s.links[l].session = n) :
    s.handOver l n q = s.withLink l { s.links[l] with transmit := s.links[l].transmit ++ [q] } := by
  unfold State.handOver
  rw [hu, hn, beq_self_eq_true, Bool.and_self, if_pos rfl]
  rfl

/-- A frame handed over to a link that is not UP, or whose session has ended, is discarded (R148). -/
theorem State.handOver_discarded {s : State} {l : LinkNo} {n : Nat} (q : Queued)
    (h : s.isUp l = false ∨ s.links[l].session ≠ n) : s.handOver l n q = s := by
  unfold State.handOver
  rw [if_neg]
  rcases h with h | h
  · simp only [h, Bool.false_and, Bool.false_eq_true, not_false_eq_true]
  · simp only [Bool.and_eq_true, beq_iff_eq, not_and]
    exact fun _ => h

/-- A frame of the router's own motion joins the transmit list of a link in UP (R148). -/
theorem State.post_up {s : State} {l : LinkNo} (f : OutFrame) (hu : s.isUp l = true) :
    s.post l f = s.queued l f :=
  State.handOver_present _ hu rfl

/-- A frame to a link that is not UP is discarded (R148). -/
theorem State.post_down {s : State} {l : LinkNo} (f : OutFrame) (hu : s.isUp l = false) : s.post l f = s :=
  State.handOver_discarded _ (.inl hu)

/-- A frame handed over to a session, in the words of Safety.lean (R148). -/
theorem State.handOver_eq_answeredIn (s : State) (l : LinkNo) (session : Nat) (f : OutFrame) :
    s.handOver l session { frame := f, thenReset := false } = s.answeredIn l session f := by
  unfold State.handOver State.answeredIn
  simp only [Bool.and_eq_true, beq_iff_eq]
  rfl

/-- Finishing a frame, in the words of Safety.lean (R151, R152). -/
theorem State.finish_eq (s : State) (l : LinkNo) : s.finish l = s.withLink l s.links[l].finished := by
  unfold State.finish Link.placeCredit Link.finished Link.append State.modLink State.withLink
  dsimp only
  split <;> simp_all

/-- The consumer has finished with its oldest frame (R150, R151). -/
theorem State.finishFrame_eq (s : State) (l : LinkNo) (p : InFrame → Bool) :
    s.finishFrame l p =
      s.withLink l ({ s.links[l] with ingress := s.links[l].ingress.eraseP p } : Link).finished := by
  unfold State.finishFrame
  rw [State.finish_eq, State.modLink_eq, State.withLink_withLink, State.withLink_self]

/-- Entering TRAINING, in the words of Safety.lean (R143). -/
theorem Link.enterTraining_eq (l : LinkNo) (k : Link) : Link.enterTraining l k = k.calling l := by
  unfold Link.enterTraining Link.calling Link.emit OutFrame.wire callOf linkRole
  by_cases h : l.val < 12 <;> simp [h, OutFrame.kind, OutFrame.body, FrameKind.code, Role.code, Mark.code]

/-! ## Reports (R130, R131, R133) -/

/-- A report changes nothing but the Fault Unit. -/
theorem State.report_eq (s : State) (r : FaultRecord) (marked : Bool) :
    s.report r marked =
      { s with
        faults := (s.report r marked).faults
        lostFaults := (s.report r marked).lostFaults
        raised := (s.report r marked).raised } := by
  unfold State.report State.recordFault State.raiseEvent
  repeat' split
  all_goals rfl

/-- What a report does to the fault list (R130). -/
theorem State.report_faults (s : State) (r : FaultRecord) (marked : Bool) :
    (s.report r marked).faults = if s.faults.length < 8 then s.faults ++ [r] else s.faults := by
  unfold State.report State.recordFault
  simp only [Config.faultListSize]
  by_cases h : s.faults.length < 8 <;> cases marked <;> simp [h]

/-- What a report does to the lost-fault count (R130). -/
theorem State.report_lostFaults (s : State) (r : FaultRecord) (marked : Bool) :
    (s.report r marked).lostFaults =
      if s.faults.length < 8 then s.lostFaults else min 255 (s.lostFaults + 1) := by
  unfold State.report State.recordFault
  simp only [Config.faultListSize, Config.maxLost]
  by_cases h : s.faults.length < 8 <;> cases marked <;> simp [h]

/-- What raising does to the raise queue (R133). -/
theorem State.raiseEvent_raised (s : State) (e : RouterEvent) (w : Word) :
    (s.raiseEvent e w).raised =
      if s.raised.any fun x => x.event == e then
        s.raised.map fun x => if x.event == e then { x with payload := w } else x
      else s.raised ++ [{ event := e, payload := w }] := by
  unfold State.raiseEvent
  split <;> rfl

/-- A raise queue keeps at most one arrival of each kind (R133). -/
theorem State.raiseEvent_nodup (s : State) (e : RouterEvent) (w : Word)
    (h : (s.raised.map Raised.event).Nodup) : ((s.raiseEvent e w).raised.map Raised.event).Nodup := by
  rw [State.raiseEvent_raised]
  split
  · have : (s.raised.map fun x => if x.event == e then { x with payload := w } else x).map Raised.event =
        s.raised.map Raised.event := by
      rw [List.map_map]
      exact List.map_congr_left fun x _ => by dsimp only [Function.comp]; split <;> rfl
    rwa [this]
  · next hn =>
    rw [List.map_append, List.nodup_append]
    refine ⟨h, by simp, ?_⟩
    intro a ha b hb hab
    simp only [List.any_eq_true, not_exists, not_and, beq_iff_eq] at hn
    simp only [List.map_cons, List.map_nil, List.mem_singleton] at hb
    obtain ⟨x, hx, rfl⟩ := List.mem_map.mp ha
    exact hn x hx (hab.trans hb)

/-- What a report does to the raise queue (R131). -/
theorem State.report_raised (s : State) (r : FaultRecord) (marked : Bool) :
    (s.report r marked).raised =
      if marked then s.raised
      else (s.raiseEvent (.fault r.kind) (eventPayload r.link r.target r.detail)).raised := by
  have hr : (s.recordFault r).raised = s.raised := by
    unfold State.recordFault; split <;> rfl
  unfold State.report
  cases marked
  · simp only [Bool.false_eq_true, if_false, State.raiseEvent_raised, hr]
  · simp only [if_true, hr]

/-! ## The pool (R22, R24) -/

/-- A slot is free when no record holds it (R22). -/
theorem State.mem_freeSlots {s : State} {n : SlotNo} :
    n ∈ s.freeSlots ↔ n ∉ s.records.map Record.slot := by
  simp only [State.freeSlots, List.mem_filter, List.mem_finRange, true_and, List.all_eq_true, bne_iff_ne,
    List.mem_map, not_exists, not_and]

/-- The free slots and the records of the pool number exactly 384, when no two records share a slot (R22). -/
theorem State.freeCount_add_records {s : State} (h : SlotsSound s) :
    s.freeCount + s.records.length = 384 := by
  have hp : (s.freeSlots ++ s.records.map Record.slot).Perm (List.finRange 384) := by
    refine (List.perm_ext_iff_of_nodup ?_ (List.nodup_finRange 384)).mpr ?_
    · rw [List.nodup_append]
      refine ⟨List.Nodup.filter _ (List.nodup_finRange 384), h, ?_⟩
      intro a ha b hb hab
      exact State.mem_freeSlots.mp ha (hab ▸ hb)
    · intro a
      simp only [List.mem_append, List.mem_finRange, iff_true]
      by_cases ha : a ∈ s.records.map Record.slot
      · exact .inr ha
      · exact .inl (State.mem_freeSlots.mpr ha)
  have hl := hp.length_eq
  rw [List.length_append, List.length_map, List.length_finRange] at hl
  exact hl

/-- Every element reads as the corresponding one of `w`, so all of them read as `w` (R184). -/
theorem readAll_eq_some {α β : Type} {n : Nat} {f : α → Option β} {v : Vector α n} {w : Vector β n}
    (h : ∀ i : Fin n, f v[i] = some w[i]) : readAll f v = some w := by
  unfold readAll
  have hs : ∀ i : Fin n, (f v[i]).isSome := fun i => by rw [h i]; rfl
  rw [dif_pos hs]
  congr 1
  apply Vector.ext
  intro i hi
  rw [Vector.getElem_ofFn]
  have := h ⟨i, hi⟩
  exact Option.get_of_eq_some (hs ⟨i, hi⟩) this

/-- A slot's codes hold an image when each field of them reads as that image's (R184, 11.6). -/
theorem readImage_eq_some {c : SlotContents} {im : Image} {sources : Vector LinkRecord 12}
    {targets : Vector LinkRecord 4} (he : readAll Entry.ofCode c.entries = some im.table.entries)
    (hw : readAll Window.ofCode c.windows = some im.table.windows)
    (hs : readAll LinkRecord.ofCode c.sourceRecords = some sources)
    (ht : readAll (fun r : BitVec 48 => LinkRecord.ofCode (r.extractLsb' 24 24)) c.targetRecords = some targets)
    (hm : readAll (fun r : BitVec 48 => TimerRecord.ofCode (r.extractLsb' 0 24)) c.targetRecords = some im.timers)
    (hk : maskOfBytes c.maskMap = im.maskMap)
    (hr : (sources ++ targets : Vector LinkRecord 16) = im.records) : readImage c = some im := by
  unfold readImage
  rw [he, hw, hs, ht, hm]
  dsimp only
  rw [hk, hr]

/-- The records of a level list (R24). -/
theorem State.mem_levelList {s : State} {t : TargetNo} {l : Level} {r : Record} :
    r ∈ s.levelList t l ↔ r ∈ s.records ∧ r.target = t ∧ r.level = l := by
  simp [State.levelList]

/-- The record of a slot is the only one that holds it, when no two records share a slot (R22). -/
theorem State.recordAt_of_mem {s : State} (h : SlotsSound s) {r : Record} (hr : r ∈ s.records) :
    s.recordAt r.slot = some r := by
  unfold State.recordAt
  have key : ∀ rs : List Record, (rs.map Record.slot).Nodup → r ∈ rs →
      rs.find? (fun x => x.slot == r.slot) = some r := by
    intro rs hn hm
    induction rs with
    | nil => cases hm
    | cons a as ih =>
      rw [List.map_cons, List.nodup_cons] at hn
      rw [List.find?_cons]
      rcases List.mem_cons.mp hm with rfl | hm'
      · simp
      · have : (a.slot == r.slot) = false := by
          simp only [beq_eq_false_iff_ne]
          intro e
          exact hn.1 (e ▸ List.mem_map_of_mem hm')
        rw [this]
        exact ih hn.2 hm'
  exact key s.records h hr

/-- The record found in a slot is a record of the pool that holds the slot. -/
theorem State.recordAt_some {s : State} {n : SlotNo} {r : Record} (h : s.recordAt n = some r) :
    r ∈ s.records ∧ r.slot = n := by
  unfold State.recordAt at h
  exact ⟨List.mem_of_find?_eq_some h, by simpa using List.find?_some h⟩

/-- The current offer is in OFFERED, is the one the target names, and is for a record under offer (R95). -/
theorem State.currentOffer_some {s : State} {t : TargetNo} {o : Offer} {r : Record} {m : OfferMark}
    (h : s.currentOffer t = some (o, r, m)) :
    s.targets[t].state = .offered ∧ s.targets[t].offer = some o ∧ s.recordAt o.slot = some r ∧
      r.offer = some m := by
  unfold State.currentOffer at h
  split at h
  · next hs =>
    split at h
    · next o' ho =>
      split at h
      · next r' hr =>
        cases hm : r'.offer with
        | none => simp [hm] at h
        | some m' =>
          simp only [hm, Option.map_some, Option.some.injEq, Prod.mk.injEq] at h
          obtain ⟨rfl, rfl, rfl⟩ := h
          exact ⟨hs, ho, hr, hm⟩
      · cases h
    · cases h
  · cases h

/-- No offer is current outside OFFERED (R95). -/
theorem State.currentOffer_none {s : State} {t : TargetNo} (h : s.targets[t].state ≠ .offered) :
    s.currentOffer t = none := by
  unfold State.currentOffer
  rw [if_neg h]

/-! ## Offers (R89, R97) -/

/-- A re-examination makes an offer of the eligible head in READY, and else does nothing (R90, R97). -/
theorem State.reexamine_cases (s : State) (t : TargetNo) :
    s.reexamine t = s ∨
      ∃ r, s.targets[t].state = .ready ∧ s.eligibleHead t = some r ∧ s.reexamine t = s.makeOffer t r := by
  unfold State.reexamine
  split
  · next hs =>
    split
    · next r hr => exact .inr ⟨r, hs, hr, rfl⟩
    · exact .inl rfl
  · exact .inl rfl

/-- Outside READY a re-examination does nothing (R97). -/
theorem State.reexamine_not_ready {s : State} {t : TargetNo} (h : s.targets[t].state ≠ .ready) :
    s.reexamine t = s := by
  unfold State.reexamine
  rw [if_neg h]

/-- The eligible head is a record of the target whose level is below the service bound (R89). -/
theorem State.eligibleHead_some {s : State} {t : TargetNo} {r : Record} (h : s.eligibleHead t = some r) :
    r ∈ s.records ∧ r.target = t ∧ r.level.val < s.targets[t].serviceBound := by
  unfold State.eligibleHead at h
  obtain ⟨l, _, hl⟩ := List.exists_of_findSome?_eq_some h
  split at hl
  · next hb =>
    have hm := State.mem_levelList.mp (List.mem_of_head? hl)
    exact ⟨hm.1, hm.2.1, by rw [hm.2.2]; exact hb⟩
  · cases hl

/-- Without an eligible head, no record of the target is eligible (R89). -/
theorem State.eligibleHead_none {s : State} {t : TargetNo} (h : s.eligibleHead t = none) {r : Record}
    (hr : r ∈ s.records) (ht : r.target = t) : s.targets[t].serviceBound ≤ r.level.val := by
  unfold State.eligibleHead at h
  have hl := List.findSome?_eq_none_iff.mp h r.level (List.mem_finRange _)
  by_contra hb
  rw [if_pos (by omega)] at hl
  have hm : r ∈ s.levelList t r.level := State.mem_levelList.mpr ⟨hr, ht, rfl⟩
  cases hll : s.levelList t r.level with
  | nil => rw [hll] at hm; cases hm
  | cons a as => rw [hll] at hl; cases hl

/-- A reported placement is a re-examination, a wake, or nothing (R58, R90, R116). -/
theorem State.notify_cases (s : State) (t : TargetNo) (l : Level) :
    s.notify t l = s ∨ s.notify t l = s.reexamine t ∨
      (s.targets[t].state = .asleep ∧ l ≤ s.targets[t].wakeLevel ∧ s.notify t l = s.sendWake t l) := by
  unfold State.notify
  split
  · next hs =>
    split
    · next hl => exact .inr (.inr ⟨hs, hl, rfl⟩)
    · exact .inl rfl
  · exact .inr (.inl rfl)

/-- Outside READY and ASLEEP a reported placement does nothing (R116, R119, R122). -/
theorem State.notify_inert {s : State} {t : TargetNo} (l : Level) (hr : s.targets[t].state ≠ .ready)
    (ha : s.targets[t].state ≠ .asleep) : s.notify t l = s := by
  unfold State.notify
  rw [if_neg ha, State.reexamine_not_ready hr]

/-! ## Arrivals (R45) -/

/-- An arrival looked up at an index is latched, refused with a report, or placed (R45). -/
theorem State.arriveAt_cases (s : State) (a : Arrival) (order : List TargetNo) (i : Index) (e : Entry) :
    (s.maskMap[i] = true ∧
        s.arriveAt a order i e = ({ s with latches := s.latches.set i (some a.origin) }, .latched)) ∨
      (s.maskMap[i] = false ∧
        ∃ reason t v, s.arriveAt a order i e = s.refuseArrival a.origin reason t (some i) v) ∨
      (s.maskMap[i] = false ∧ e.valid = true ∧ s.fullTarget i e (s.chosenTargets i e) = none ∧
        s.poolAdmits a.kind (s.newRecordsNeeded i e (s.chosenTargets i e)) = true ∧
        s.arriveAt a order i e =
          (s.place i e a.origin a.payload (s.chosenTargets i e) order, .placed)) := by
  unfold State.arriveAt
  by_cases hm : s.maskMap[i] = true
  · exact .inl ⟨hm, if_pos hm⟩
  · have hm' : s.maskMap[i] = false := by simpa using hm
    refine .inr ?_
    rw [if_neg hm]
    by_cases hv : e.valid = true
    · rw [if_neg (by simp [hv])]
      dsimp only
      cases hf : s.fullTarget i e (s.chosenTargets i e) with
      | some t => exact .inl ⟨hm', _, _, _, rfl⟩
      | none =>
        by_cases hp : s.poolAdmits a.kind (s.newRecordsNeeded i e (s.chosenTargets i e)) = true
        · exact .inr ⟨hm', hv, rfl, hp, if_pos hp⟩
        · exact .inl ⟨hm', _, _, _, if_neg hp⟩
    · exact .inl ⟨hm', _, _, _, if_pos (by simpa using hv)⟩

/-- Passing does nothing, or puts the oldest EVENT frame of the link in UP in progress and leaves it in the
buffer (R43, R150). -/
theorem State.passEvent_cases (s : State) (n : SourceLink) :
    s.passEvent n = s ∨
      ∃ number payload, s.isUp (sourceLink n) = true ∧ s.loading = false ∧
        s.links[sourceLink n].ingress.find? InFrame.isEvent = some (.event number payload) ∧
        s.passEvent n =
          { s with
            arriving :=
              s.arriving.set n
                (some { session := s.links[sourceLink n].session, event := number, payload := payload }) } := by
  unfold State.passEvent
  split
  · next number payload h =>
    unfold State.waiting at h
    split at h
    · next hu => exact .inr ⟨number, payload, by simp_all, by simp_all, h, rfl⟩
    · cases h
  · exact .inl rfl

/-- The end of an external arrival, in the words of Safety.lean (R43, R147, R151). -/
theorem State.endEvent_eq (s : State) (n : SourceLink) (p : PassedEvent) :
    s.endEvent n p = s.eventEnded n p := by
  unfold State.endEvent State.eventEnded
  simp only [Bool.and_eq_true, beq_iff_eq]
  split
  · rw [State.finishFrame_eq]
  · rfl

/-- Presentation does nothing, or moves the first arrival of the raise queue out of it, outside the image load
(R133). -/
theorem State.presentRaised_cases (s : State) :
    s.presentRaised = s ∨
      ∃ x rest, s.loading = false ∧ s.raised = x :: rest ∧
        s.presentRaised = { s with raised := rest, presented := some x } := by
  unfold State.presentRaised
  split
  · next x rest h =>
    split
    · exact .inl rfl
    · next hl => exact .inr ⟨x, rest, by simpa using hl, h, rfl⟩
  · exact .inl rfl

/-! ## Target frames and session ends (R123, R147, R150) -/

@[simp] theorem linkTarget_targetLink (t : TargetNo) : linkTarget (targetLink t) = some t := by
  revert t; decide

/-- The target frame in progress is one of the Delivery Controller's, the first of its link's buffer in UP (R150). -/
theorem State.targetFrame_some {s : State} {t : TargetNo} {f : InFrame} (h : s.targetFrame t = some f) :
    s.targets[t].state ≠ .offline ∧ s.isUp (targetLink t) = true ∧ s.loading = false ∧
      s.links[targetLink t].ingress.find? InFrame.isTargetFrame = some f ∧ f.isTargetFrame = true := by
  unfold State.targetFrame State.waiting at h
  split at h
  · cases h
  · split at h
    · next ho hu => exact ⟨ho, by simp_all, by simp_all, h, List.find?_some h⟩
    · cases h

/-- With an empty buffer no target frame is in progress. -/
theorem State.targetFrame_empty {s : State} {t : TargetNo} (h : s.links[targetLink t].ingress = []) :
    s.targetFrame t = none := by
  unfold State.targetFrame State.waiting
  rw [h]
  simp

/-- What is taken before a session end: nothing, or the target frame in progress, by the very step of its own
command (R123, R147). -/
theorem State.takeInProgress_cases (s : State) (t : TargetNo) :
    (s.targetFrame t = none ∧ s.takeInProgress t = s) ∨
      ∃ f c, s.targetFrame t = some f ∧ f.command t = some c ∧ exec c s = .next (s.takeInProgress t) := by
  cases h : s.targetFrame t with
  | none => exact .inl ⟨rfl, by simp [State.takeInProgress, h]⟩
  | some f =>
    have ht := (State.targetFrame_some h).2.2.2.2
    refine .inr ⟨f, ?_⟩
    cases f with
    | event _ _ => cases ht
    | request _ _ _ => cases ht
    | claim _ => exact ⟨_, rfl, rfl, by simp [exec, execClaimFrame, State.takeInProgress, h]; rfl⟩
    | refuse _ => exact ⟨_, rfl, rfl, by simp [exec, execRefuseFrame, State.takeInProgress, h]; rfl⟩
    | done _ => exact ⟨_, rfl, rfl, by simp [exec, execDoneFrame, State.takeInProgress, h]; rfl⟩
    | ready => exact ⟨_, rfl, rfl, by simp [exec, execReadyFrame, State.takeInProgress, h]; rfl⟩
    | level _ => exact ⟨_, rfl, rfl, by simp [exec, execLevelFrame, State.takeInProgress, h]; rfl⟩
    | sleep _ => exact ⟨_, rfl, rfl, by simp [exec, execSleepFrame, State.takeInProgress, h]; rfl⟩

/-- A session end on a source link clears the session (R147). -/
theorem State.sessionEnd_source (s : State) {l : LinkNo} (h : linkTarget l = none) :
    s.sessionEnd l = s.clearSession l := by
  simp [State.sessionEnd, h]

/-- A session end on a target link takes the frame in progress and then clears the session (R123, R147). -/
@[simp] theorem State.sessionEnd_target (s : State) (t : TargetNo) :
    s.sessionEnd (targetLink t) = (s.takeInProgress t).clearSession (targetLink t) := by
  simp [State.sessionEnd]

/-- What a session end clears does not depend on what the buffer holds (R147). -/
theorem State.clearSession_withLink (s : State) (l : LinkNo) (frames : List InFrame) :
    (s.withLink l { s.links[l] with ingress := frames }).clearSession l = s.clearSession l := by
  unfold State.clearSession
  rw [State.modLink_eq, State.modLink_eq, State.withLink_withLink, State.withLink_self]

/-! ## Requests (R168) -/

/-- The operation of a code (11.3). -/
@[simp] theorem Operation.ofCode_code (op : Operation) : Operation.ofCode op.code = some op := by
  cases op <;> decide

/-- A code names an operation only when it is that operation's code (11.3). -/
theorem Operation.ofCode_some {c : Byte} {op : Operation} (h : Operation.ofCode c = some op) :
    c = op.code := by
  unfold Operation.ofCode at h
  have := List.find?_some h
  simp only [beq_iff_eq] at this
  exact this.symm

/-- Only a CANCEL may be taken while a request is current (R73, R168). -/
theorem State.takenFor_of_ne {op : Operation} (s : State) (h : op ≠ .cancel) :
    s.takenFor op = s.nextRequest :=
  if_neg h

/-- The engine's next request may be taken whatever it names (R168). -/
theorem State.takenFor_of_next {s : State} {r : Request} (op : Operation) (h : s.nextRequest = some r) :
    s.takenFor op = some r := by
  unfold State.takenFor
  split <;> simp [h]

/-- A request that is taken is the oldest of the queue, outside the image load (R168, R182). -/
theorem State.takenFor_head {s : State} {op : Operation} {r : Request} (h : s.takenFor op = some r) :
    s.queue.head? = some r ∧ s.loading = false := by
  have next : s.nextRequest = some r → s.queue.head? = some r ∧ s.loading = false := by
    unfold State.nextRequest
    split
    · simp
    · next hn => exact fun hr => ⟨hr, by simp_all⟩
  unfold State.takenFor at h
  split at h
  · rw [Option.or_eq_some_iff] at h
    obtain h | ⟨-, h⟩ := h
    · exact next h
    · unfold State.cancelMeanwhile at h
      split at h
      · split at h
        · cases h
        · next hl => exact ⟨(Option.filter_eq_some_iff.mp h).1, by simp_all⟩
      · cases h
  · exact next h

/-- Serving an operation does nothing, answers DENIED, or serves the oldest request of the queue (R168). -/
theorem State.serve_cases (s : State) (op : Operation) (body : Request → State → State) :
    s.serve op body = s ∨
      ∃ r, s.takenFor op = some r ∧ r.operation = op.code ∧
        ((s.links[r.link].record.rights.has op.right = false ∧
            s.serve op body =
              ({ s with queue := s.queue.tail } : State).answer r (Reply.fail .denied) false) ∨
          (s.links[r.link].record.rights.has op.right = true ∧
            s.serve op body = body r { s with queue := s.queue.tail })) := by
  unfold State.serve
  split
  · next r hr =>
    split
    · next ho =>
      refine .inr ⟨r, hr, Operation.ofCode_some ho, ?_⟩
      dsimp only
      by_cases hh : s.links[r.link].record.rights.has op.right = true
      · exact .inr ⟨hh, if_pos hh⟩
      · exact .inl ⟨by simpa using hh, if_neg hh⟩
    · exact .inl rfl
  · exact .inl rfl

/-- A granted request is served from the queue's rest (R168). -/
theorem State.serve_granted {s : State} {op : Operation} {r : Request} {operands : List Byte}
    (h : Granted s op r operands) (body : Request → State → State) :
    s.serve op body = body r { s with queue := s.queue.tail } := by
  obtain ⟨⟨hr, ho, _, _⟩, _, hh⟩ := h
  unfold State.serve
  rw [hr]
  dsimp only
  rw [ho, Operation.ofCode_code, if_pos rfl, if_pos hh]

/-- An answer without unnamed bits, in the present session of a link in UP, is the RESPONSE at the tail of
the transmit list (R164). -/
theorem State.answer_named {s : State} {r : Request} {reply : Reply} (hu : s.isUp r.link = true)
    (hn : s.links[r.link].session = r.session) (hp : hasUnnamed reply.results = false) :
    s.answer r reply false =
      s.queued r.link (.response r.sequence reply.status (render s.draws reply.results)) := by
  unfold State.answer
  rw [hp, State.handOver_present _ hu hn]
  rfl

/-- An answer without unnamed bits is one frame to the session of the request (R148, R164). -/
theorem State.answer_eq_answeredIn (s : State) (r : Request) {reply : Reply}
    (hp : hasUnnamed reply.results = false) :
    s.answer r reply false =
      s.answeredIn r.link r.session (.response r.sequence reply.status (render s.draws reply.results)) := by
  unfold State.answer
  rw [hp, State.handOver_eq_answeredIn]
  rfl

/-- Named bytes have no unnamed bits. -/
@[simp] theorem hasUnnamed_plain (bs : List Byte) : hasUnnamed (plain bs) = false := by
  simp [hasUnnamed, plain]

/-- Named bytes are sent as they are. -/
@[simp] theorem render_plain (d : Nat) (bs : List Byte) : render d (plain bs) = bs := by
  unfold render plain
  apply List.ext_getElem
  · simp
  · intro n h1 h2
    simp [ResultByte.sent]

/-! ## Requests taken in steps -/

/-- A step of a MASK before the last index sets one flag and stays current (R69). -/
theorem State.maskNext_before {s : State} {m : MaskRun} {i : Index} (h : i.val = m.next.val + 1)
    (hi : i ≤ m.last) :
    s.maskNext m =
      { s with
        maskMap := s.maskMap.set m.next true
        current := some (.mask { m with next := i, newly := m.newly + if s.maskMap[m.next] then 0 else 1 }) } := by
  have hl : m.next < m.last := by
    have : i.val ≤ m.last.val := hi
    exact Fin.lt_def.mpr (by omega)
  have hn : (⟨m.next.val + 1, Nat.lt_of_le_of_lt hl m.last.isLt⟩ : Index) = i := Fin.ext h.symm
  unfold State.maskNext
  simp only [dif_pos hl, hn]

/-- The step of a MASK at its last index sets the flag and answers (R68, R69). -/
theorem State.maskNext_last {s : State} {m : MaskRun} (h : m.next = m.last) :
    s.maskNext m =
      ({ s with maskMap := s.maskMap.set m.next true, current := none } : State).answer m.request
        (.ok (plain (bytesOf 2 (BitVec.ofNat 16 (m.newly + if s.maskMap[m.next] then 0 else 1))))) false := by
  have hl : ¬ m.next < m.last := by rw [h]; exact lt_irrefl _
  unfold State.maskNext
  simp only [dif_neg hl]

/-- The response of an UNMASK, in the words of Safety.lean (R70). -/
theorem State.answerUnmask_eq (s : State) (u : UnmaskRun) : s.answerUnmask u = s.unmaskAnswered u := by
  unfold State.answerUnmask State.unmaskAnswered UnmaskRun.result
  rw [State.answer_eq_answeredIn _ _ (hasUnnamed_plain _)]
  simp only [Reply.ok, render_plain]

/-- An UNMASK goes on by no act (R70). -/
@[simp] theorem State.unmaskOn_zero (s : State) (u : UnmaskRun) :
    s.unmaskOn u 0 = { s with current := some (.unmask u) } := rfl

/-- An UNMASK that is done has the response as its next act (R70). -/
theorem State.unmaskOn_done (s : State) {u : UnmaskRun} (h : u.done = true) (pace : Nat) :
    s.unmaskOn u (pace + 1) = s.unmaskAnswered u := by
  rw [State.unmaskOn, if_pos h, State.answerUnmask_eq]

/-- An UNMASK that waits for a release goes no further (R70). -/
theorem State.unmaskOn_waiting (s : State) {u : UnmaskRun} (h : u.presented.isSome = true) (pace : Nat) :
    s.unmaskOn u pace = { s with current := some (.unmask u) } := by
  obtain ⟨latch, h⟩ := Option.isSome_iff_exists.mp h
  cases pace with
  | zero => rfl
  | succ pace =>
    rw [State.unmaskOn, if_neg (by simp [UnmaskRun.done, h]), h]

/-- An UNMASK that waits for no release takes the next index of its range (R70). -/
theorem State.unmaskOn_index (s : State) {u : UnmaskRun} {i : Index} (hp : u.presented = none)
    (hn : u.next = i.val) (hi : i ≤ u.last) (pace : Nat) :
    s.unmaskOn u (pace + 1) = (s.takeIndex u i).1.unmaskOn (s.takeIndex u i).2 pace := by
  have hr : inRange 512 u.next = some i := by
    unfold inRange
    rw [dif_pos (by omega)]
    exact congrArg some (Fin.ext hn)
  rw [State.unmaskOn, if_neg (by simp [UnmaskRun.done, hp, hn, hi]), hp, hr]

/-- The handling that a RESTART does next is one of those that are left (R178). -/
theorem RestartRun.choose_mem {run : RestartRun} (h : run.left ≠ []) (draw : Nat) :
    ∃ p ∈ run.left, run.choose draw = some p := by
  unfold RestartRun.choose
  split
  · next p hp => exact ⟨p, by simp [hp], rfl⟩
  · have hk : Config.nextHandling draw % run.left.length < run.left.length :=
      Nat.mod_lt _ (List.length_pos_of_ne_nil h)
    exact ⟨run.left[_]'hk, List.getElem_mem hk, List.getElem?_eq_getElem hk⟩

/-- A step of a RESTART does one handling of those that are left, and answers after the last (R178). -/
theorem State.restartNext_cases (s : State) {run : RestartRun} (h : run.left ≠ []) :
    ∃ p ∈ run.left,
      s.restartNext run =
        if run.left.erase p = [] then
          ({ s.restartPart p with draws := s.draws + 1, current := none } : State).answer run.request (.ok []) false
        else
          { s.restartPart p with
            draws := s.draws + 1, current := some (.restart { run with left := run.left.erase p }) } := by
  obtain ⟨p, hp, hc⟩ := RestartRun.choose_mem h s.draws
  refine ⟨p, hp, ?_⟩
  unfold State.restartNext
  rw [hc]

end Sys2Proof.Machine
end

