-- ==== Sys2Proof/Tests/Slice0.lean ====
section
/-! SUPPORT. Named tests: ill-formed commands, the check values, one step per command with figures from the
guide's worked sequences, and for every statement with hypotheses a witness that meets them. -/

open Sys2Proof Sys2Proof.Machine

namespace Sys2Proof.Tests

-- One theorem at a time: each is evaluated in the kernel, and many at once would need a thread each.
set_option Elab.async false

/-! ## Small states -/

/-- A link in UP, in its first session, with every right. -/
def linkUp : Link :=
  { Link.reset { rights := Rights.all, errorLimit := 8, autoRetrain := true } 1 [] with state := .up }

/-- Every link UP, every target READY, tables at the start values, nothing held. -/
def quiet : State :=
  { State.reset with
    loading := false
    links := Vector.replicate 16 linkUp
    targets := Vector.replicate 4 Target.fresh }

/-- A valid entry of the guide's sequences: DIRECT, queue limit 1. -/
def direct (t : TargetNo) (level : Level) (mode : Mode) (vector : Byte) : Entry :=
  { valid := true, vector := vector, level := level, mode := mode, queueLimit := 1,
    distribution := .direct, targets := BitVec.ofNat 4 (2 ^ t.val) }

/-- The state with an entry of bank A and the window of a source such that its event 0 reaches it. -/
def mapped (s : State) (n : SourceNo) (i : Index) (size : Fin 65) (e : Entry) : State :=
  { s with
    bankA :=
      { entries := s.bankA.entries.set i e
        windows := s.bankA.windows.set n { base := i, size := size } } }

/-- The state with a frame in the buffer of a link. -/
def received (s : State) (l : LinkNo) (f : InFrame) : State :=
  s.withLink l { s.links[l] with ingress := s.links[l].ingress ++ [f] }

/-- The state with an EVENT frame of a source link in its buffer, and in progress in the link's present session. -/
def arriving (s : State) (n : SourceLink) (number : Byte) (payload : List Word) : State :=
  { received s (sourceLink n) (.event number payload) with
    arriving :=
      s.arriving.set n
        (some { session := s.links[sourceLink n].session, event := number, payload := payload }) }

/-- The state with an internal arrival in progress. -/
def presenting (s : State) (e : RouterEvent) (w : Word) : State :=
  { s with presented := some { event := e, payload := w } }

/-- A request of link 12 in its present session. -/
def ask (op : Operation) (operands : List Byte) : Request :=
  { link := 12, session := 1, sequence := 7, operation := op.code, operands := operands }

/-- The state with that request alone in the queue. -/
def asking (s : State) (op : Operation) (operands : List Byte) : State :=
  { s with queue := [ask op operands] }

/-- A record of the pool. -/
def held (slot : SlotNo) (t : TargetNo) (i : Index) (level : Level) (mode : Mode) : Record :=
  { slot := slot, target := t, index := i, vector := 49, level := level, mode := mode,
    count := if mode = .count then some 1 else none, payload := [],
    origin := { source := 3, event := 6 }, offer := none }

/-- The state with records in the pool. -/
def holding (s : State) (rs : List Record) : State :=
  { s with records := rs }

/-- A target in OFFERED with a record under offer at the head of the pool. -/
def offering (s : State) (r : Record) (tag : Byte) (retries : Fin 8) (void : Bool) : State :=
  (holding s ({ r with offer := some { tag := tag, void := void } } :: s.records)).withTarget r.target
    { s.targets[r.target] with
      state := .offered, offer := some { tag := tag, slot := r.slot }, tagCounter := tag + 1,
      claimTimer := some 32, retriesLeft := some retries }

/-- An in-service entry. -/
def served (level : Level) (tag : Byte) (i : Index) : InService :=
  { vector := 1, level := level, index := i, origin := { source := 0, event := 0 }, claimTag := tag }

/-- The state with a link in another state. -/
def linkIn (s : State) (l : LinkNo) (state : LinkState) : State :=
  s.withLink l
    { s.links[l] with
      state := state, trainingTimer := state == .training, quietTimer := state == .faulted }

/-- The state with a target in another state. -/
def targetIn (s : State) (t : TargetNo) (state : TargetState) : State :=
  s.withTarget t (s.targets[t].resting state)

/-- What the state is after a command; no command of this model stops. -/
def after (c : Instr) (s : State) : State :=
  match exec c s with
  | .next t => t
  | .fault _ => s
  | .refused _ => s

/-- The frames that wait on a link. -/
def waits (s : State) (l : LinkNo) : List OutFrame :=
  s.links[l].transmit.map Queued.frame

/-- The order of the targets, lowest first. -/
def rising : List TargetNo :=
  [0, 1, 2, 3]

/-! ## Ill-formed commands -/

theorem test_wf_short_frame_refused : (Instr.frameReceive 3 [0x03, 0x01]).wellFormed = false := by decide
theorem test_wf_long_frame_refused :
    (Instr.frameReceive 3 [0x0E, 0x00, 0x01, 0x02, 0x03]).wellFormed = false := by decide
theorem test_wf_hello_kind_refused :
    (Instr.helloInTraining 3 [0x03, 0x00, 0x01, 0x02]).wellFormed = false := by decide
theorem test_wf_hello_length_refused : (Instr.helloInUp 3 [0x01, 0x02, 0x00]).wellFormed = false := by decide
theorem test_wf_order_repeats_refused :
    (Instr.externalArrival 3 [0, 1, 1, 2]).wellFormed = false := by decide
theorem test_wf_order_short_refused : (Instr.internalArrival [0, 1, 2]).wellFormed = false := by decide
theorem test_wf_release_order_refused : (Instr.release [3, 3, 3, 3] 4).wellFormed = false := by decide
theorem test_wf_whole_frame : (Instr.helloInUp 3 [0x01, 0x00, 0x01, 0x02]).wellFormed = true := by decide

/-! ## Check values and layouts (chapter 11) -/

/-- The check of R197 over "123456789" is the known check value of its polynomial, 29B1h. -/
theorem test_frame_crc :
    crc (0x1021 : Half) 0xFFFF [0x31, 0x32, 0x33, 0x34, 0x35, 0x36, 0x37, 0x38, 0x39] = 0x29B1 := by
  decide +kernel

/-- The check of R198 over "123456789" is the known check value of its polynomial, FC891918h. -/
theorem test_slot_crc : slotCheck [0x31, 0x32, 0x33, 0x34, 0x35, 0x36, 0x37, 0x38, 0x39] = 0xFC891918 := by
  decide +kernel

/-- The payload word of 11.7: link 13, target 1, detail 5385. -/
theorem test_event_payload : eventPayload (some 13) (some 1) 5385 = 0x0D011509 := by decide +kernel

/-- A PROTOCOL detail of 11.7: NOT_IN_SERVICE × 256 + 9. -/
theorem test_protocol_detail : ErrReason.notInService.detail 9 = 5385 := by decide +kernel

/-- The entry of 1.9, step 1, by the bits of 11.4: vector 49, valid and level 1, limit 1, COUNT, DIRECT,
target 2. -/
theorem test_entry_code :
    (direct 2 1 .count 49).code = 0x31811404 ∧ Entry.ofCode 0x31811404 = some (direct 2 1 .count 49) := by
  decide +kernel

/-- A window of base 496 and size 14 (3.12), base in bits 15 to 7. -/
theorem test_window_code : Window.ofCode 0xF80E = some { base := 496, size := 14 } := by decide +kernel

/-- The body of an OFFER by 11.2: tag, vector, level, count, origin, index, payload. -/
theorem test_offer_body :
    OutFrame.body 0
        (.offer
          { tag := 5, vector := 88, level := 3, count := 2, origin := { source := 12, event := 10 },
            index := 300, payload := [0x0D011509] }) =
      [5, 88, 3, 2, 12, 10, 0x01, 0x2C, 0x0D, 0x01, 0x15, 0x09] := by
  decide +kernel

/-! ## One step of each command, with figures from the worked sequences -/

/-- FULL_RESET (R162, R39): links DOWN, pool empty. -/
theorem test_full_reset :
    let s := after .fullReset (offering quiet (held 3 2 70 1 .merge) 9 3 false)
    s.links[14].state = .down ∧ s.records = [] ∧ s.targets[2].state = .offline ∧ s.loading = true := by
  decide +kernel

/-- IMAGE_LOAD without an image (R187, 10.6): NO_IMAGE at position 0, links in TRAINING. -/
theorem test_image_load :
    let s := after .imageLoad State.reset
    s.faults.map FaultRecord.kind = [.noImage] ∧ s.links[5].state = .training ∧
      s.links[12].record.rights = Rights.all ∧ s.links[3].record.rights = Rights.none := by
  decide +kernel

/-- 8.12, event 1: link 5 calls again. -/
theorem test_training_timer :
    (after (.trainingTimerExpiry 5) (linkIn quiet 5 .training)).links[5].sent.map
        (fun w => (w.kind, w.body)) =
      [(0x01, [0x00, 0x00])] := by
  decide +kernel

/-- 8.12, event 2: the call of link 5's peer, with the right role, starts a session with an answer. -/
theorem test_hello_in_training :
    let s := after (.helloInTraining 5 (frameBytes 0x01 [0x00, 0x00])) (linkIn quiet 5 .training)
    s.links[5].state = .up ∧ s.links[5].grant = 4 ∧ s.links[5].errors = 0 ∧
      waits s 5 = [.hello .source .answer] := by
  decide +kernel

/-- 9.11, event 5: a call in UP ends the session, and the link's requests are removed. -/
theorem test_hello_in_up :
    let s := after (.helloInUp 12 (frameBytes 0x01 [0x01, 0x00])) (asking quiet .readLink [12])
    s.queue = [] ∧ s.links[12].session = 2 ∧ s.targets[0].state = .ready := by
  decide +kernel

/-- A HELLO of the wrong role in UP faults the link (R145). -/
theorem test_hello_wrong_role :
    let s := after (.helloInUp 12 (frameBytes 0x01 [0x00, 0x00])) quiet
    s.links[12].state = .faulted ∧ s.faults.map FaultRecord.detail = [1] := by
  decide +kernel

/-- 8.12, event 6: a bad check is discarded and finished, error count 1, grant count 8. -/
theorem test_bad_check :
    let s := after (.frameReceive 5 [0x03, 0x01, 0x05, 0x00, 0x00])
      (quiet.withLink 5 { linkUp with grant := 7 })
    s.links[5].errors = 1 ∧ s.links[5].grant = 8 ∧ s.links[5].ingress = [] := by
  decide +kernel

/-- 8.13, event 2: an overrun, CREDIT_OVERRUN with link 13, target 1 and detail 1, grant count 5. -/
theorem test_overrun :
    let s := after (.frameReceive 13 (frameBytes 0x0E []))
      (quiet.withLink 13 { linkUp with ingress := [.ready, .level 6, .level 7, .ready] })
    s.faults =
        [{ kind := .creditOverrun, link := some 13, target := some 1, index := none, event := none,
           detail := 1 }] ∧
      s.links[13].grant = 5 := by
  decide +kernel

/-- 8.13, event 4: a bad check at the limit faults link 13; LEVEL(6) is taken, the rest is removed, and target 1 is
OFFLINE with threshold 8. -/
theorem test_fault_on_target_link :
    let k : Link := { linkUp with
      ingress := [.level 6, .level 7, .ready], grant := 6, errors := 1
      record := { rights := Rights.all, errorLimit := 2, autoRetrain := false } }
    let s := after (.frameReceive 13 [0x0E, 0x00, 0x00, 0x00]) (quiet.withLink 13 k)
    (s.links[13].state, s.links[13].errors, s.links[13].grant, s.links[13].ingress) = (.faulted, 2, 4, []) ∧
      (s.targets[1].state, s.targets[1].threshold) = (.offline, 8) ∧
      s.faults.map (fun r => (r.kind, r.link, r.target, r.detail)) = [(.linkFaulted, some 13, some 1, 2)] := by
  decide +kernel

/-- R123 and R147: an overrun at the limit takes the CLAIM in progress whole before the session ends, so that the
record leaves the pool and the session end abandons its service, in the order of 8.13, event 4. -/
theorem test_overrun_takes_claim :
    let s := after (.frameReceive 13 (frameBytes 0x0E []))
      ((offering quiet (held 4 1 210 5 .merge) 10 3 false).withLink 13
        { linkUp with ingress := [.claim 10, .ready, .ready, .ready], errors := 7 })
    s.records = [] ∧ s.targets[1].state = .offline ∧ s.targets[1].stack = [] ∧
      s.faults.map FaultRecord.kind = [.creditOverrun, .linkFaulted, .serviceAbandoned] := by
  decide +kernel

/-- R123: a call that ends the session takes the DONE in progress first: the right one ends the service, so that
nothing is abandoned, and another one is reported before the service is abandoned. -/
theorem test_call_takes_done :
    let s := fun tag => (after (.helloInUp 13 (frameBytes 0x01 [0x01, 0x00]))
      (received (quiet.withTarget 1 { Target.fresh with stack := [served 2 11 44] }) 13 (.done tag))).faults.map
        FaultRecord.kind
    s 11 = [] ∧ s 12 = [.protocol, .serviceAbandoned] := by
  decide +kernel

/-- 8.13, event 5: auto-retrain is no, and the link stays FAULTED. -/
theorem test_quiet_timer :
    let s := after (.quietTimerExpiry 13)
      ((linkIn quiet 13 .faulted).withLink 13
        { (linkIn quiet 13 .faulted).links[13] with
          record := { rights := Rights.all, errorLimit := 2, autoRetrain := false } })
    s.links[13].state = .faulted ∧ s.links[13].quietTimer = false := by
  decide +kernel

/-- R153: a CREDIT frame is placed, and a second one is not. -/
theorem test_credit_refresh :
    waits (after (.creditRefresh 5) quiet) 5 = [.credit] ∧
      waits (after (.creditRefresh 5) (after (.creditRefresh 5) quiet)) 5 = [.credit] := by
  decide +kernel

/-- 8.12, event 5: the CREDIT frame leaves carrying 7. -/
theorem test_frame_transmit :
    let s := after (.frameTransmit 5)
      (quiet.withLink 5 { linkUp with grant := 7, transmit := [{ frame := .credit, thenReset := false }] })
    waits s 5 = [] ∧ s.links[5].sent.map (fun w => (w.kind, w.body)) = [(0x02, [0x07])] := by
  decide +kernel

/-- R43, R150: the EVENT frame is passed and holds its place. 2.9, event 1: a new COUNT record in the lowest free
slot, count 1, payload absent, and an offer. -/
theorem test_external_arrival :
    let p := after (.externalArrival 3 rising)
      (mapped (received quiet 3 (.event 0 [77])) 3 70 16 (direct 2 1 .count 49))
    let s := after (.externalArrival 3 rising) p
    (p.arriving[3] = some { session := 1, event := 0, payload := [77] } ∧ p.records = [] ∧
        p.links[3].ingress = [.event 0 [77]] ∧ p.links[3].grant = 4) ∧
      s.arriving[3] = none ∧ s.links[3].ingress = [] ∧ s.links[3].grant = 5 ∧ s.records =
        [{ held 0 2 70 1 .count with
           origin := { source := 3, event := 0 }, offer := some { tag := 0, void := false } }] ∧
      s.targets[2].state = .offered := by
  decide +kernel

/-- 3.12, event 5: the external figure is 1 plus 8; at a free count of 8 the refusal is POOL_FULL with
detail 7 × 256 + 8 = 1800 and a NACK. -/
theorem test_pool_full :
    let pool := (List.range 376).map fun n => held (Fin.ofNat 384 n) 0 9 7 .queue
    let s := after (.externalArrival 7 rising)
      (mapped (arriving (holding quiet pool) 7 0 []) 7 4 64 (direct 2 6 .merge 61))
    s.faults.map (fun f => (f.kind, f.link, f.detail)) = [(.poolFull, some 7, 1800)] ∧
      waits s 7 = [.nack .poolFull 0, .credit] := by
  decide +kernel

/-- R64: an arrival in progress when its session ends is taken whole all the same. Its NACK is discarded, and the
frame of the next session waits. -/
theorem test_arrival_outlives_session :
    let s := received (after (.helloInUp 3 (frameBytes 0x01 [0x00, 0x00])) (arriving quiet 3 0 [77])) 3 (.event 9 [])
    let t := after (.externalArrival 3 rising) (mapped s 3 70 16 (direct 2 1 .merge 49))
    let u := after (.externalArrival 3 rising) (mapped s 3 70 16 Entry.start)
    (t.records.map Record.payload = [[77]] ∧ t.links[3].ingress = [.event 9 []] ∧ t.links[3].grant = 4) ∧
      u.faults.map (fun f => (f.kind, f.link)) = [(.unmapped, some 3)] ∧ waits u 3 = waits s 3 := by
  decide +kernel

/-- 7.9, event 4: an internal arrival refused UNMAPPED is reported with detail 3072 and not raised. -/
theorem test_internal_arrival :
    let s := after (.internalArrival rising)
      (mapped (presenting quiet (.fault .noImage) 5) 12 496 14 Entry.start)
    s.faults.map (fun f => (f.kind, f.link, f.event, f.detail)) = [(.unmapped, none, some 0, 3072)] ∧
      s.raised = [] ∧ s.presented = none := by
  decide +kernel

/-- R133: a fault of the kind of the arrival in progress joins the raise queue anew, so that both make a record of
a QUEUE entry. -/
theorem test_same_kind_while_presented :
    let e : Entry := { direct 2 6 .queue 61 with queueLimit := 2 }
    let s := after (.internalArrival rising)
      (mapped { quiet with raised := [{ event := .fault .noImage, payload := 5 }] } 12 4 14 e)
    let r := s.raiseEvent (.fault .noImage) 9
    let t := after (.internalArrival rising) (after (.internalArrival rising) (after (.internalArrival rising) r))
    (s.raised = [] ∧ s.presented = some { event := .fault .noImage, payload := 5 }) ∧
      r.raised = [{ event := .fault .noImage, payload := 9 }] ∧ t.records.map Record.payload = [[5], [9]] := by
  decide +kernel

/-- The UNMASK of the worked sequences, with a release out at its last index. -/
def releaseRun (i : Index) (o : Origin) : UnmaskRun :=
  { request := ask .unmask [], next := i.val + 1, last := i, cleared := 1, placed := 0, refused := 0,
    presented := some { index := i, origin := o } }

/-- The state with that UNMASK current. -/
def releasing (s : State) (i : Index) (o : Origin) : State :=
  { s with current := some (.unmask (releaseRun i o)) }

/-- 4.7, event 6: the release is placed with origin source 6, event 0; OK with 1 / 1 / 0. -/
theorem test_release_placed :
    let s := after (.release rising 1)
      (releasing (mapped quiet 6 40 1 (direct 3 3 .merge 17)) 40 { source := 6, event := 0 })
    s.records.map (fun r => (r.target, r.level, r.origin.source, r.payload)) = [(3, 3, 6, [])] ∧
      waits s 12 = [.response 7 .ok [0, 1, 0, 1, 0, 0]] := by
  decide +kernel

/-- 4.8, event 1: the release is refused QUEUE_FULL and lost, with detail 1025. R72, 4.8 after the table: the internal
arrival of the last fault, here placed at index 93, comes before the response, or after it. -/
theorem test_release_refused :
    let entries := mapped (mapped quiet 4 80 1 (direct 0 2 .queue 1)) 11 93 1 (direct 0 2 .merge 1)
    let s := mapped (releasing (holding entries [held 5 0 80 2 .queue]) 80 { source := 4, event := 0 }) 12 90 14
      Entry.start
    let arrive := fun x => after (.internalArrival rising) (after (.internalArrival rising) x)
    let early := arrive (after (.release rising 0) s)
    let answered := after (.release rising 1) s
    (early.faults.map (fun f => (f.kind, f.target, f.detail)) = [(.queueFull, some 0, 1025)] ∧
        early.records.length = 2 ∧ waits early 12 ≠ [] ∧
        waits (after (.unmaskRange 1) early) 12 = waits early 12 ++ [.response 7 .ok [0, 1, 0, 0, 0, 1]]) ∧
      waits answered 12 = [.response 7 .ok [0, 1, 0, 0, 0, 1]] ∧ answered.records.length = 1 ∧
      (arrive answered).records.length = 2 := by
  decide +kernel

/-- 5.7, event 2: A is freed and pushed with claim tag 10; D at level 6 is not eligible. -/
theorem test_claim :
    let s := after (.claimFrame 1)
      (received (offering (holding quiet [held 8 1 212 6 .merge]) (held 4 1 210 5 .merge) 10 3 false) 13
        (.claim 10))
    s.targets[1].stack.map (fun e => (e.level, e.index, e.claimTag)) = [(5, 210, 10)] ∧
      s.records.map Record.slot = [8] ∧ s.targets[1].state = .ready := by
  decide +kernel

/-- 2.10, event 3: the CLAIM of a void offer is answered VOID(7), and slot 9 is offered next. -/
theorem test_claim_void :
    let s := after (.claimFrame 0)
      (received (offering (holding quiet [held 9 0 300 4 .queue]) (held 5 0 300 4 .queue) 7 3 true) 12
        (.claim 7))
    s.records.map Record.slot = [9] ∧ s.targets[0].stack = [] ∧ (waits s 12).head? = some (.void 7) := by
  decide +kernel

/-- 2.9, event 5: the refused record takes its twin's count, and the twin is freed. -/
theorem test_refuse :
    let s := after (.refuseFrame 2)
      (received
        (offering (holding quiet [{ held 18 2 70 1 .count with count := some 2 }]) (held 17 2 70 1 .count) 40
          3 false)
        14 (.refuse 40))
    s.records.map (fun r => (r.slot, r.count, r.offer)) = [(17, some 3, none)] ∧
      s.targets[2].state = .held ∧ s.targets[2].holdTimer = some 16 := by
  decide +kernel

/-- 5.7, event 7: DONE(10) below the top entry is NOT_TOP, with the entry index 210 in the fault. -/
theorem test_done_not_top :
    let s := after (.doneFrame 1)
      (received (quiet.withTarget 1 { Target.fresh with stack := [served 2 11 44, served 5 10 210] }) 13
        (.done 10))
    (waits s 13).head? = some (.err .notTop 10) ∧ s.targets[1].stack.length = 2 ∧
      s.faults.map (fun f => (f.kind, f.link, f.index)) = [(.protocol, some 13, some 210)] := by
  decide +kernel

/-- 5.7, event 8: DONE(11) pops the top, and C at level 2 is offered with tag 12. -/
theorem test_done :
    let s := after (.doneFrame 1)
      (received
        ((holding quiet [held 3 1 45 2 .merge]).withTarget 1
          { Target.fresh with
            stack := [served 2 11 44, served 5 10 210], threshold := 3, tagCounter := 12 })
        13 (.done 11))
    s.targets[1].stack = [served 5 10 210] ∧ s.targets[1].offer = some { tag := 12, slot := 3 } := by
  decide +kernel

/-- 6.12, event 7: READY in LOST offers slot 40 with tag 6. -/
theorem test_ready :
    let s := after (.readyFrame 3)
      (received
        ((holding quiet [held 40 3 150 3 .count]).withTarget 3
          { Target.resting .lost Target.fresh with tagCounter := 6 })
        15 .ready)
    s.targets[3].offer = some { tag := 6, slot := 40 } ∧ s.targets[3].tagCounter = 7 := by
  decide +kernel

/-- 5.7, event 11: LEVEL(8) makes D at level 6 eligible. -/
theorem test_level :
    let s := after (.levelFrame 1)
      (received
        ((holding quiet [held 8 1 212 6 .merge]).withTarget 1
          { Target.fresh with threshold := 3, tagCounter := 13 })
        13 (.level 8))
    s.targets[1].threshold = 8 ∧ s.targets[1].offer = some { tag := 13, slot := 8 } := by
  decide +kernel

/-- 6.13, event 1: SLEEP(2) with nothing at levels 0 to 2; with SLEEP(6) the level-6 record wakes it. -/
theorem test_sleep :
    let s := (holding quiet [held 8 0 212 6 .merge]).withTarget 0 { Target.fresh with threshold := 4 }
    (after (.sleepFrame 0) (received s 12 (.sleep 2))).targets[0].state = .asleep ∧
      waits (after (.sleepFrame 0) (received s 12 (.sleep 6))) 12 = [.wake 6, .credit] := by
  decide +kernel

/-- 6.12, event 5: with no retries left the record is withdrawn and TARGET_LOST has detail 5. -/
theorem test_claim_timer_lost :
    let s := after (.claimTimerExpiry 3)
      (offering (holding quiet [held 41 3 150 3 .count]) { held 40 3 150 3 .count with count := some 2 } 5 0
        false)
    s.records.map (fun r => (r.slot, r.count)) = [(40, some 3)] ∧ s.targets[3].state = .lost ∧
      s.faults.map (fun f => (f.kind, f.link, f.index, f.detail)) =
        [(.targetLost, some 15, some 150, 5)] := by
  decide +kernel

/-- 6.12, event 2: with retries left the same OFFER is sent again. -/
theorem test_claim_timer_resend :
    let s := after (.claimTimerExpiry 3) (offering quiet (held 40 3 150 3 .count) 5 2 false)
    s.targets[3].retriesLeft = some 1 ∧ s.targets[3].state = .offered ∧ (waits s 15).length = 1 := by
  decide +kernel

/-- A target in WAKING, as in 6.13. -/
def waking (retries : Fin 8) : State :=
  quiet.withTarget 0
    { Target.resting .waking Target.fresh with
      wakeLevel := 2, claimTimer := some 32, retriesLeft := some retries, wakeSent := some 1 }

/-- 6.13, event 5: WAKE is sent again with level 1; with none left TARGET_LOST has detail 258. -/
theorem test_wake_timer :
    waits (after (.claimTimerExpiryWaking 0) (waking 3)) 12 = [.wake 1] ∧
      (after (.claimTimerExpiryWaking 0) (waking 3)).targets[0].retriesLeft = some 2 ∧
      (after (.claimTimerExpiryWaking 0) (waking 0)).faults.map FaultRecord.detail = [258] := by
  decide +kernel

/-- 5.7, event 1: the hold ends, and A at level 5 is offered before D at level 6. -/
theorem test_hold_timer :
    let s := after (.holdTimerExpiry 1)
      ((holding quiet [held 8 1 212 6 .merge, held 4 1 210 5 .merge]).withTarget 1
        { Target.resting .held Target.fresh with holdTimer := some 16, tagCounter := 10 })
    s.targets[1].offer = some { tag := 10, slot := 4 } := by
  decide +kernel

/-- 1.9, step 6: bank A takes bank B's entry, and BANK_READY is raised with detail 1. -/
theorem test_copy_phase_end :
    let s := after .copyPhaseEnd
      { quiet with
        active := .b, copyState := .copying
        bankB := { Bank.start with entries := Bank.start.entries.set 70 (direct 2 1 .count 49) } }
    s.bankA.entries[70] = direct 2 1 .count 49 ∧ s.copyState = .idle ∧ s.faults = [] ∧
      s.raised = [{ event := .bankReady, payload := 0xFFFF0001 }] := by
  decide +kernel

/-- 9.10, event 3: a third request of link 12 is answered FULL with its sequence. -/
theorem test_request_admission :
    let q := { quiet with queue := [ask .commit [0], ask .readStatus []] }
    let s := after (.requestAdmission 12) (received q 12 (.request 23 0x07 []))
    waits s 12 = [.response 23 .full [], .credit] ∧ s.queue.length = 2 ∧
      (after (.requestAdmission 3) (received q 3 (.request 8 0x07 []))).queue.length = 3 := by
  decide +kernel

/-- 9.12, event 5: READ_STATUS with one record held shows free count 383. -/
theorem test_read_status :
    ((holding quiet [held 0 2 70 1 .merge]).readStatus []).results.map ResultByte.named =
      [0x2E, 0x03, 0x00, 0x01, 0x7F, 0, 0, 0xFF, 0, 0, 0, 0] := by
  decide +kernel

/-- 8.13, event 6: READ_LINK of link 13 shows FAULTED with error count 2. -/
theorem test_read_link :
    let s := quiet.withLink 13 { linkUp with state := .faulted, errors := 2 }
    waits (after .readLink (asking s .readLink [13])) 12 =
      [.response 7 .ok [13, 3, 2, 4, 0x0F, 8, 1, 32, 3, 16]] := by
  decide +kernel

/-- 9.11, event 2: SET_LINK leaves READ alone. -/
theorem test_set_link :
    let s := after .setLink (asking quiet .setLink [12, 0x01, 8, 1, 32, 3, 16])
    s.links[12].record.rights = { read := true, write := false, commit := false, control := false } ∧
      waits s 12 = [.response 7 .ok [12, 0x01, 8, 1, 32, 3, 16]] := by
  decide +kernel

/-- READ_TARGET with STACK_LOW (11.5): depth, then the entries from the bottom. -/
theorem test_read_target :
    ((quiet.withTarget 1 { Target.fresh with stack := [served 2 11 44, served 5 10 210] }).readTarget
          [1, 1]).results.map ResultByte.named =
      [1, 2, 0x05, 1, 0, 210, 0, 0, 10, 0x12, 1, 0, 44, 0, 0, 11] := by
  decide +kernel

/-- 8.13, event 6: RESET_LINK(13) of a FAULTED link. -/
theorem test_reset_link :
    let s := after .resetLink (asking (linkIn quiet 13 .faulted) .resetLink [13])
    s.links[13].state = .training ∧ waits s 12 = [.response 7 .ok [13, 3]] := by
  decide +kernel

/-- The state with a RESTART current, and these handlings of it to be done. -/
def restarting (s : State) (left : List RestartPart) : State :=
  { s with current := some (.restart { request := ask .restart [], left := left }) }

/-- RESTART, taken, empties the queue and is not yet answered (R178). -/
theorem test_restart_taken :
    let s := after .restart { quiet with queue := [ask .restart [], ask .readStatus []] }
    s.queue = [] ∧ waits s 12 = [] ∧
      s.current = some (.restart { request := ask .restart [], left := [.delivery, .latches, .pointers] }) := by
  decide +kernel

/-- 9.12: RESTART frees every record, sends VOID(9) and empties the stacks, here as its last handling. -/
theorem test_restart :
    let s := after .restart
      (restarting
        ((offering quiet (held 3 2 70 1 .merge) 9 3 false).withTarget 0
          { Target.fresh with stack := [served 2 11 44, served 5 10 210] })
        [.delivery])
    s.freeCount = 384 ∧ waits s 14 = [.void 9] ∧ s.targets[0].stack = [] ∧
      s.targets[2].tagCounter = 10 ∧ s.faults = [] ∧ waits s 12 = [.response 7 .ok []] := by
  decide +kernel

/-- 9.10, event 7: FREEZE sets the flag. -/
theorem test_freeze : (after .freeze (asking quiet .freeze [])).frozen = true := by decide +kernel

/-- 1.9, step 1: bank B takes the new entry, and the response is OK, bank B. -/
theorem test_write_entry :
    let s := after .writeEntry (asking quiet .writeEntry [0, 70, 0x31, 0x81, 0x14, 0x04])
    s.bankB.entries[70] = direct 2 1 .count 49 ∧ s.bankA.entries[70] = Entry.start ∧
      waits s 12 = [.response 7 .ok [1]] := by
  decide +kernel

/-- 7.10, step 1: window 12 with base 496 and size 14; a size of 65 is refused. -/
theorem test_write_window :
    (after .writeWindow (asking quiet .writeWindow [12, 0xF8, 0x0E])).bankB.windows[12] =
        { base := 496, size := 14 } ∧
      waits (after .writeWindow (asking quiet .writeWindow [12, 0x00, 0x41])) 12 =
        [.response 7 .badValue []] := by
  decide +kernel

/-- 1.9, steps 5 and 7: BUSY during the copy phase, then bank A with the new entry. -/
theorem test_read_entry :
    waits (after .readEntry
        (asking { quiet with active := .b, copyState := .copying } .readEntry [1, 0, 70, 1])) 12 =
        [.response 7 .busy []] ∧
      waits (after .readEntry
        (asking { mapped quiet 3 70 16 (direct 2 1 .count 49) with active := .b } .readEntry [1, 0, 70, 1]))
          12 =
        [.response 7 .ok [0, 0x31, 0x81, 0x14, 0x04]] := by
  decide +kernel

/-- READ_WINDOW of the active bank (R11). -/
theorem test_read_window :
    waits (after .readWindow
        (asking (mapped quiet 12 496 14 Entry.start) .readWindow [0, 12])) 12 =
      [.response 7 .ok [0, 12, 0xF8, 0x0E]] := by
  decide +kernel

/-- 1.9, step 3, and 1.10: COPY switches and starts the copy phase, KEEP only switches. -/
theorem test_commit :
    let s := after .commit (asking quiet .commit [0])
    let k := after .commit (asking quiet .commit [1])
    s.active = .b ∧ s.copyState = .copying ∧ waits s 12 = [.response 7 .ok [1]] ∧ k.active = .b ∧
      k.copyState = .idle := by
  decide +kernel

/-- A CANCEL of link 13 is taken between two releases of an UNMASK of link 12, which stays current (R73). -/
theorem test_cancel_between_releases :
    let r := { ask .cancel [0, 0x01, 0x2C] with link := 13 }
    let s := after .cancel
      { releasing (holding quiet [held 9 0 300 4 .queue]) 40 { source := 6, event := 0 } with queue := [r] }
    s.records = [] ∧ waits s 13 = [.response 7 .ok [0, 1]] ∧ s.current.isSome = true := by
  decide +kernel

/-- 2.10, event 1: CANCEL frees slots 9 and 12, marks slot 5 void, and answers 3. -/
theorem test_cancel :
    let s := after .cancel
      (asking
        (offering (holding quiet [held 9 0 300 4 .queue, held 12 0 300 4 .queue]) (held 5 0 300 4 .queue) 7 3
          false)
        .cancel [0, 0x01, 0x2C])
    s.records.map (fun r => (r.slot, r.offer)) = [(5, some { tag := 7, void := true })] ∧
      waits s 12 = [.response 7 .ok [0, 3]] := by
  decide +kernel

/-- READ_PENDING of a level list (11.5): target, level, length 2, one record carried, its named bits. -/
theorem test_read_pending :
    ((holding quiet [held 9 0 300 4 .queue, held 12 0 300 4 .queue]).readPending
          [0, 4, 0, 1, 4]).results.map ResultByte.named =
      [0, 4, 0, 2, 1, 0x80, 0x01, 0x00, 0x0C, 0x31, 0x2C, 49, 6, 0] := by
  decide +kernel

/-- The MASK(38, 41) of 4.7, event 1, with 41 left to be set. -/
def masking : State :=
  { quiet with
    maskMap := ((quiet.maskMap.set 38 true).set 39 true).set 40 true
    current := some (.mask { request := ask .mask [0, 38, 0, 41], next := 41, last := 41, newly := 3 }) }

/-- 4.7, event 1: MASK(38, 41) sets four clear flags. -/
theorem test_mask :
    let s := after .maskRange masking
    s.maskMap[37] = false ∧ s.maskMap[40] = true ∧ s.maskMap[41] = true ∧ s.maskMap[42] = false ∧
      s.current = none ∧ waits s 12 = [.response 7 .ok [0, 4]] := by
  decide +kernel

/-- R69: while MASK is carried out, an arrival at an index whose flag is set is latched, and one at a later index
of the range, whose flag is not, is placed. -/
theorem test_arrivals_during_mask :
    let s := mapped (arriving (arriving masking 6 1 []) 7 2 []) 6 39 4 (direct 3 3 .merge 17)
    let t := mapped (arriving masking 6 0 []) 6 41 4 (direct 3 3 .merge 17)
    (after (.externalArrival 6 rising) s).latches[40] = some { source := 6, event := 1 } ∧
      (after (.externalArrival 6 rising) s).records = [] ∧
      (after (.externalArrival 6 rising) t).latches[41] = none ∧
      (after (.externalArrival 6 rising) t).records.map Record.index = [41] := by
  decide +kernel

/-- The flags and the latch of 4.7, event 5. -/
def latched : State :=
  { quiet with
    maskMap := (((quiet.maskMap.set 38 true).set 39 true).set 40 true).set 41 true
    latches := quiet.latches.set 40 (some { source := 6, event := 0 }) }

/-- 4.7, event 6: UNMASK(40, 40) clears the flag, removes the latch and presents the release. -/
theorem test_unmask :
    let s := after (.unmaskRange 1) (asking latched .unmask [0, 40, 0, 40])
    s.maskMap[40] = false ∧ s.maskMap[41] = true ∧ s.latches[40] = none ∧ waits s 12 = [] ∧
      s.current = some (.unmask { releaseRun 40 { source := 6, event := 0 } with
        request := ask .unmask [0, 40, 0, 40] }) := by
  decide +kernel

/-- 4.7, event 5: flags set for 38 to 41, a latch at 40 alone. -/
theorem test_read_mask :
    waits (after .readMask (asking latched .readMask [0, 38, 4])) 12 =
      [.response 7 .ok [0, 38, 4, 0xAE]] := by
  decide +kernel

/-- 11.7: the PROTOCOL record of link 13 and target 1; its presence byte is 03h whole, and bit 4 of its byte 0 is not
named. -/
theorem test_read_faults :
    let results :=
      (({ quiet with
          faults :=
            [{ kind := .protocol, link := some 13, target := some 1, index := none, event := none,
               detail := 5385 }] } : State).readFaults
            [0, 4]).results
    results.map ResultByte.named = [1, 0, 0x0A, 0x03, 13, 1, 0, 0, 0, 0x15, 0x09] ∧
      results.map ResultByte.unnamed = [0, 0, 0x10, 0, 0, 0, 0, 0, 0, 0, 0] := by
  decide +kernel

/-- 7.9, event 7: 8 removed and a lost count before of 2. -/
theorem test_clear_faults :
    let f : FaultRecord :=
      { kind := .protocol, link := none, target := none, index := none, event := none, detail := 0 }
    let s := after .clearFaults
      (asking { quiet with faults := List.replicate 8 f, lostFaults := 2 } .clearFaults [8, 1])
    s.faults = [] ∧ s.lostFaults = 0 ∧ s.faultAsserted = false ∧
      waits s 12 = [.response 7 .ok [8, 2]] := by
  decide +kernel

/-- 10.5, event 1: with generations 6 and 5 the new generation is 7 and the target slot 1. -/
theorem test_save :
    let s := after .saveTables (asking { quiet with summary := #v[some 6, some 5] } .save [])
    s.saving.map (fun run => (run.slot, run.generation)) = some (1, 7) ∧ s.summary = #v[some 6, none] ∧
      waits s 12 = [] := by
  decide +kernel

/-- A SAVE in progress into slot 0. -/
def savingNow : State :=
  { quiet with
    saving := some { snapshot := Image.start, slot := 0, generation := 8 }
    saveRecord := some { link := 12, session := 1, sequence := 7 } }

/-- 10.5, event 5: contents that read back wrong are answered FAILED, with SAVE_FAILED detail 0. -/
theorem test_save_end_failed :
    let s := after (.saveEnd (some (Image.start.contents 9)) none) savingNow
    waits s 12 = [.response 7 .failed []] ∧ s.slots[0].check = none ∧ s.saving = none ∧
      s.faults.map (fun f => (f.kind, f.detail)) = [(.saveFailed, 0)] := by
  decide +kernel

/-- A code that names no operation is answered UNKNOWN_OP (R168). -/
theorem test_unknown_op :
    let s := { quiet with queue := [{ ask .save [] with operation := 0x77 }] }
    waits (after .unknownOp s) 12 = [.response 7 .unknownOp []] ∧ (after .unknownOp s).queue = [] := by
  decide +kernel

/-! ## Witnesses: the hypotheses of each statement, met together -/

/-- A state in which much goes on: an EVENT of link 3 and an internal arrival are in progress, target 2 holds an
offer with a twin, target 1 a service; an index is masked and latched, a fault is held and raised, and a request
waits. -/
def busy : State :=
  { asking
      ((offering (holding (arriving quiet 3 0 [77]) [held 18 2 70 1 .count]) (held 17 2 70 1 .count) 40
          3 false).withTarget 1
        { Target.fresh with stack := [served 2 11 44, served 5 10 210] })
      .readStatus [] with
    maskMap := quiet.maskMap.set 40 true
    latches := quiet.latches.set 40 (some { source := 6, event := 0 })
    faults := [noImageFault]
    raised := [{ event := .fault .noImage, payload := 0xFFFF0000 }]
    presented := some { event := .bankReady, payload := 0xFFFF0001 }
    pending := [.refuseFrame 2] }

theorem witness_TableCodesRoundTrip :
    ({ direct 3 7 .queue 255 with queueLimit := 8 } : Entry).legal = true ∧
      Entry.ofCode 0x31811404 = some (direct 2 1 .count 49) ∧
      ({ base := 448, size := 64 } : Window).legal = true ∧
      Window.ofCode 0xE040 = some { base := 448, size := 64 } ∧
      ({ rights := Rights.all, errorLimit := 15, autoRetrain := false } : LinkRecord).legal = true ∧
      LinkRecord.ofCode 0xFF0F01 = some { rights := Rights.all, errorLimit := 15, autoRetrain := true } ∧
      ({ claimTimeout := 1, retries := 7, holdTime := 255 } : TimerRecord).legal = true ∧
      TimerRecord.ofCode 0x0107FF = some { claimTimeout := 1, retries := 7, holdTime := 255 } := by
  decide +kernel

theorem start_bank_legal : BankLegal Bank.start := by
  constructor
  · intro i
    have : Bank.start.entries[i] = Entry.start := by simp [Bank.start]
    rw [this]
    decide
  · intro n
    have : Bank.start.windows[n] = Window.start := by simp [Bank.start]
    rw [this]
    decide

theorem start_image_legal : ImageLegal Image.start :=
  ⟨start_bank_legal, by decide +kernel, by decide +kernel⟩

theorem start_entries_read_back :
    readAll Entry.ofCode (Image.start.contents 7).entries = some Image.start.table.entries :=
  readAll_eq_some fun i => by
    have hc : (Image.start.contents 7).entries[i] = Entry.start.code := by
      simp [Image.contents, Image.start, Bank.start]
    have he : Image.start.table.entries[i] = Entry.start := by simp [Image.start, Bank.start]
    have hr : Entry.ofCode Entry.start.code = some Entry.start := by decide
    rw [hc, he, hr]

theorem start_windows_read_back :
    readAll Window.ofCode (Image.start.contents 7).windows = some Image.start.table.windows := by
  decide +kernel

theorem start_source_records_read_back :
    readAll LinkRecord.ofCode (Image.start.contents 7).sourceRecords =
      some (Vector.ofFn fun l : Fin 12 => Image.start.records[l.val]) := by
  decide +kernel

theorem start_target_records_read_back :
    readAll (fun r : BitVec 48 => LinkRecord.ofCode (r.extractLsb' 24 24))
        (Image.start.contents 7).targetRecords =
      some (Vector.ofFn fun t : Fin 4 => Image.start.records[12 + t.val]) := by
  decide +kernel

theorem start_timers_read_back :
    readAll (fun r : BitVec 48 => TimerRecord.ofCode (r.extractLsb' 0 24))
        (Image.start.contents 7).targetRecords =
      some Image.start.timers := by
  decide +kernel

theorem start_records_joined :
    ((Vector.ofFn fun l : Fin 12 => Image.start.records[l.val]) ++
        (Vector.ofFn fun t : Fin 4 => Image.start.records[12 + t.val]) : Vector LinkRecord 16) =
      Image.start.records := by
  decide +kernel

/-- A mask map without a flag set is stored as zeros and read back (11.6). -/
theorem mask_clear_reads_back {m : Vector Bool 512} (h : ∀ (i : Nat) (hi : i < 512), m[i] = false)
    (i : Nat) (hi : i < 512) : (maskOfBytes (maskBytes m))[i] = false := by
  have hz : byteOfBits ((List.finRange 8).map fun _ => false) = 0 := by decide +kernel
  have hb : ∀ (k : Nat) (hk : k < 64), (maskBytes m)[k] = 0 := by
    intro k hk
    unfold maskBytes
    rw [Vector.getElem_ofFn]
    simp only [h, hz]
  unfold maskOfBytes
  rw [Vector.getElem_ofFn]
  simp only [hb]
  exact BitVec.getLsbD_zero

theorem start_mask_reads_back :
    maskOfBytes (maskBytes (Vector.replicate 512 false)) = Vector.replicate 512 false :=
  Vector.ext fun i hi => by
    rw [mask_clear_reads_back (fun _ hj => Vector.getElem_replicate hj) i hi, Vector.getElem_replicate]

theorem start_image_reads_back : readImage (Image.start.contents 7) = some Image.start :=
  readImage_eq_some start_entries_read_back start_windows_read_back start_source_records_read_back
    start_target_records_read_back start_timers_read_back start_mask_reads_back start_records_joined

theorem witness_ImageCodesRoundTrip :
    ImageLegal Image.start ∧ ∃ c im, readImage c = some im :=
  ⟨start_image_legal, _, _, start_image_reads_back⟩

theorem witness_SentFramesReadBack :
    ((OutFrame.response 9 .ok (List.replicate 46 0)).body 4).length = 48 ∧
      (OutFrame.credit.body 4).length ≤ 255 := by
  decide +kernel

theorem witness_LoadWithoutImage :
    State.reset.loading = true ∧ (∀ k : ImageSlot, State.reset.slots[k].image = none) ∧
      State.reset.faults = [] ∧ State.reset.raised = [] := by
  decide +kernel

/-- A slot that holds the start values under a generation. -/
def imageSlot (g : Word) : Slot :=
  Slot.written (Image.start.contents g) (some (slotCheck (slotBytes (Image.start.contents g))))

theorem imageSlot_image (g : Word) (h : readImage (Image.start.contents g) = some Image.start) :
    (imageSlot g).image = some (g, Image.start) := by
  unfold imageSlot Slot.image Slot.contents Slot.written
  dsimp only
  rw [if_pos rfl]
  simp only [h, Option.map_some]
  rfl

/-- A part that is loading, with an image of generation 7 in slot 0. -/
def loadingPart : State :=
  { State.reset with slots := #v[imageSlot 7, Slot.erased] }

theorem witness_LoadChoosesNewestImage :
    loadingPart.loading = true ∧ loadingPart.slots[(0 : ImageSlot)].image = some (7, Image.start) ∧
      ∀ (j : ImageSlot) (g' : Word) (im' : Image), j ≠ 0 → loadingPart.slots[j].image = some (g', im') →
        g' < 7 ∨ (g' = 7 ∧ (0 : ImageSlot) = 0) := by
  refine ⟨rfl, imageSlot_image 7 start_image_reads_back, ?_⟩
  intro j g' im' hj h
  match j, hj with
  | 1, _ => cases (show (none : Option (Word × Image)) = some (g', im') from h)

theorem witness_LoadChoosesNewestImage_none :
    State.reset.loading = true ∧ ∀ k : ImageSlot, State.reset.slots[k].image = none := by
  decide +kernel

theorem witness_SaveThenLoadRestores :
    let s := asking quiet .save []
    Granted s .save (ask .save []) [] ∧ s.frozen = false ∧ s.copyState = .idle ∧ s.saving = none ∧
      TablesSound s ∧ ImageStoreSound s ∧ ∀ k : ImageSlot, s.summary[k] ≠ some 0xFFFFFFFF :=
  ⟨by decide +kernel, rfl, rfl, rfl,
    ⟨start_bank_legal, start_bank_legal, by decide +kernel, by decide +kernel⟩, by decide +kernel,
    by decide +kernel⟩

theorem witness_MaskRangesAreSetAndCleared_noLatch (i : Index) : quiet.latches[i] = none := by
  simp only [quiet, State.reset, Fin.getElem_fin]
  exact Vector.getElem_replicate i.isLt

/-- The one latch of `busy` is at its one masked index. -/
theorem busy_masks_sound : MaskSound busy := by
  refine ⟨fun i h => ?_, by decide +kernel, by decide +kernel, fun c hc => by cases hc⟩
  by_cases hi : i = 40
  · subst hi
    rfl
  · have hn : (40 : Nat) ≠ i.val := fun hv => hi (Fin.ext hv.symm)
    have : busy.latches[i] = none := by
      simp only [busy, quiet, State.reset, Fin.getElem_fin]
      rw [Vector.getElem_set_ne (h := hn), Vector.getElem_replicate]
    rw [this] at h
    cases h

/-- The invariants hold together in a state in which much goes on, and a step from it answers next. -/
theorem witness_invariants :
    FaultUnitSound busy ∧ TablesSound busy ∧ MaskSound busy ∧ QueueSound busy ∧ LinksSound busy ∧
      DeliverySound busy ∧ KeysSound busy ∧ RecordsSound busy ∧ NothingOverdue busy ∧
      LongOperationsSound busy ∧ ImageStoreSound busy ∧ FramesSound busy :=
  ⟨by decide +kernel, ⟨start_bank_legal, start_bank_legal, by decide +kernel, by decide +kernel⟩,
    busy_masks_sound, by decide +kernel, by decide +kernel, by decide +kernel, by decide +kernel,
    by decide +kernel, by decide +kernel, by decide +kernel, by decide +kernel⟩

/-- The Mask Unit's invariant holds with an UNMASK, a MASK or a RESTART current, and a step of each answers next. -/
theorem witness_LatchesStayMasked :
    let o : Origin := { source := 6, event := 0 }
    MaskSound { releasing quiet 40 o with pending := [.release rising 0] } ∧
      MaskSound { masking with pending := [.maskRange] } ∧
      MaskSound { restarting quiet [.latches, .pointers] with pending := [.restart] } ∧
      ∃ t, step { masking with pending := [.maskRange] } = .next t := by
  have none : ∀ i : Index, quiet.latches[i].isSome → False := fun i h => by
    simp [witness_MaskRangesAreSetAndCleared_noLatch i] at h
  refine ⟨⟨fun i h => (none i h).elim, nofun, by decide +kernel, ?_⟩,
    ⟨fun i h => (none i h).elim, nofun, by decide +kernel, ?_⟩,
    ⟨fun i h => (none i h).elim, nofun, by decide +kernel, ?_⟩, _, rfl⟩ <;>
    rintro c ⟨⟩ <;> decide

theorem witness_invariants_step : ∃ t, step busy = .next t := ⟨_, rfl⟩

theorem witness_FrozenTablesStay :
    let s := asking { quiet with frozen := true } .setLink [12, 0, 1, 0, 1, 0, 1]
    s.frozen = true ∧ LongOperationsSound s ∧ s.loading = false ∧ Instr.setLink ≠ .fullReset := by
  decide +kernel

/-- A running part with an image of generation 7 in slot 0. -/
def runningPart : State :=
  { asking quiet .save [] with slots := #v[imageSlot 7, Slot.erased], summary := #v[some 7, none] }

theorem witness_NewestImageNeverWritten :
    ImageStoreSound runningPart ∧ runningPart.newestSlot = some 0 ∧
      ∃ t, exec .saveTables runningPart = .next t := by
  refine ⟨⟨?_, ?_⟩, by decide +kernel, _, rfl⟩
  · intro k
    match k with
    | 0 =>
      show some 7 = (imageSlot 7).image.map Prod.fst
      rw [imageSlot_image 7 start_image_reads_back]
      rfl
    | 1 => rfl
  · intro run h
    cases (show none = some run from h)

theorem witness_RefusedRequestsChangeNothing :
    let s := asking { quiet with frozen := true } .commit [0]
    let r := ask .commit [0]
    Asked s .commit r ∧ (∃ t, exec (Operation.command 0 .commit) s = .next t ∧
      t.links[r.link].transmit =
        s.links[r.link].transmit ++ [{ frame := .response 7 .frozen [], thenReset := false }]) ∧
      Status.frozen ≠ .ok :=
  ⟨by decide +kernel, ⟨_, rfl, by decide +kernel⟩, by decide⟩

theorem witness_OnlyTheirCommandsChange :
    (after .commit (asking quiet .commit [0])).active ≠ quiet.active ∧
      (after .freeze (asking quiet .freeze [])).frozen ≠ quiet.frozen ∧
      (after .maskRange masking).maskMap[(41 : Index)] ≠ masking.maskMap[(41 : Index)] ∧
      (after .clearFaults (asking { quiet with faults := [noImageFault] } .clearFaults [1, 0])).faults = [] ∧
      (after (.externalArrival 3 rising) busy).arriving[(3 : SourceLink)] ≠ busy.arriving[(3 : SourceLink)] ∧
      (after (.internalArrival rising) busy).presented ≠ busy.presented := by
  decide +kernel

/-! ### The Fault Unit -/

theorem witness_FaultListTakesAndClears :
    quiet.faults.length < 8 ∧ 8 ≤ (List.replicate 8 noImageFault).length ∧
      (∀ x ∈ quiet.raised, x.event ≠ .fault .noImage) ∧ (∃ x ∈ busy.raised, x.event = .fault .noImage) ∧
      Granted (asking quiet .clearFaults [1, 0]) .clearFaults (ask .clearFaults [1, 0]) [1, 0] ∧
      Granted (asking quiet .clearFaults [8, 1]) .clearFaults (ask .clearFaults [8, 1]) [8, 1] ∧
      (quiet.presented = none ∧ quiet.loading = false ∧ quiet.raised = []) ∧
      { busy with presented := none }.raised = { event := .fault .noImage, payload := 0xFFFF0000 } :: [] := by
  decide +kernel

/-! ### The pending pool and offers -/

theorem witness_OfferIsMostUrgentOldest :
    let a := held 8 1 212 6 .merge
    let r := held 4 1 210 5 .merge
    let c := held 5 1 211 5 .merge
    let s := holding quiet [a, r, c]
    (s.targets[1].state = .ready ∧ s.isUp (targetLink 1) = true ∧ SlotsSound s ∧
        s.records = [a] ++ r :: [c] ∧ r.target = 1 ∧ r.level.val < s.targets[1].threshold.val ∧
        s.targets[1].stack = [] ∧ (∀ x ∈ s.records, x.target = 1 → r.level ≤ x.level) ∧
        ∀ x ∈ [a], x.target = 1 → x.level ≠ r.level) ∧
      (targetIn quiet 1 .asleep).targets[1].state = .asleep ∧
      (targetIn quiet 1 .asleep).isUp (targetLink 1) = true ∧ (targetIn quiet 1 .held).targets[1].state ≠ .ready := by
  decide +kernel

/-- At a bound of 5 a level-5 record is not eligible, and at a threshold of 5 neither. -/
theorem witness_OfferIsMostUrgentOldest_bound :
    let r := held 4 1 210 5 .merge
    ((holding quiet [r]).withTarget 1 { Target.fresh with threshold := 5 }).targets[1].threshold.val ≤
        r.level.val ∧
      ∃ e rest, ((holding quiet [r]).withTarget 1
          { Target.fresh with stack := [served 5 10 210] }).targets[1].stack = e :: rest ∧
        e.level ≤ r.level :=
  ⟨by decide +kernel, served 5 10 210, [], by decide +kernel, by decide +kernel⟩

theorem witness_WithdrawalMergesTwin :
    let r := { held 17 2 70 1 .count with offer := some { tag := 40, void := false } }
    let w := held 18 2 70 1 .count
    let sameKey := fun x : Record =>
      x.slot ≠ r.slot ∧ x.target = r.target ∧ x.index = r.index ∧ x.mode = r.mode ∧ x.offer = none
    SlotsSound busy ∧ r ∈ busy.records ∧ busy.targets[r.target].state = .offered ∧ w ∈ busy.records ∧
      r.mode ≠ .queue ∧ sameKey w ∧ (∀ x ∈ busy.records, sameKey x → x = w) ∧
      ∀ x ∈ [r], ¬ sameKey x := by
  decide +kernel

theorem witness_SessionEndClearsLink :
    (busy.targets[(1 : TargetNo)].state ≠ .offline ∧ busy.targets[(1 : TargetNo)].state ≠ .offered) ∧
      busy.targetFrame 1 = none ∧ busy.targetFrame 2 = none ∧
      (received busy (targetLink 1) (.done 44)).targetFrame 1 = some (.done 44) ∧
      SlotsSound busy ∧
      ∃ r ∈ busy.records, ∃ m, r.target = 2 ∧ r.offer = some m ∧
        busy.targets[(2 : TargetNo)].state = .offered ∧
        busy.targets[(2 : TargetNo)].offer = some { tag := m.tag, slot := r.slot } :=
  ⟨by decide +kernel, by decide +kernel, by decide +kernel, by decide +kernel, by decide +kernel,
    { held 17 2 70 1 .count with offer := some { tag := 40, void := false } },
    by decide +kernel, { tag := 40, void := false }, by decide +kernel⟩

/-! ### Links -/

theorem witness_LinkServices :
    let t := linkIn quiet 15 .training
    let f := linkIn quiet 0 .faulted
    let w := quiet.withLink 15
      { linkUp with transmit := [{ frame := .response 7 .ok [15, 2], thenReset := true }] }
    (t.links[15].state = .training ∧ t.links[15].trainingTimer = true) ∧
      (f.links[0].state = .faulted ∧ f.links[0].quietTimer = true) ∧
      (quiet.links[0].state = .up ∧ quiet.links[0].transmit = []) ∧
      (w.links[15].state = .up ∧
        w.links[15].transmit = { frame := .response 7 .ok [15, 2], thenReset := true } :: []) := by
  decide +kernel

theorem witness_HelloStartsAndEndsSessions :
    (linkIn quiet 11 .training).links[11].state = .training ∧ quiet.links[12].state = .up ∧
      ([0x00, 0x01, 0x02] : List Byte).length ≤ 255 ∧
      ([0x00] : List Byte) ≠ [0x00, 0x00] ∧
      ({ kind := 0x01, body := [0x00, 0x00], check := 0 } : Wire).check ≠ frameCheck 0x01 [0x00, 0x00] := by
  decide +kernel

theorem witness_FramesAreAccepted :
    let s := quiet.withLink 12 { linkUp with ingress := [.ready, .ready, .ready] }
    s.links[12].state = .up ∧ s.links[12].ingress.length < 4 ∧
      peerSends 12 (InFrame.sleep 7).kindAndBody.1 = true ∧ (InFrame.sleep 7).payloadWords ≤ 2 ∧
      peerSends 11 (InFrame.event 1 [2, 3]).kindAndBody.1 = true ∧ (InFrame.event 1 [2, 3]).payloadWords ≤ 2 ∧
      (List.replicate 46 (0 : Byte)).length ≤ 46 ∧
      ((linkIn quiet 3 .down).links[3].state = .down ∧ (linkIn quiet 3 .faulted).links[3].state = .faulted) ∧
      ((linkIn quiet 3 .training).links[3].state = .training ∧ (0x03 : Byte) ≠ 0x01) ∧
      (quiet.loading = false ∧ (linkIn quiet 3 .faulted).arriving[(3 : SourceLink)] = none ∧
        quiet.links[sourceLink 3].state = .up ∧ ∀ f ∈ quiet.links[sourceLink 3].ingress, f.isEvent = false) ∧
      (received (received quiet 3 (.request 1 7 [])) 3 (.event 1 [2, 3])).links[sourceLink 3].ingress =
        [.request 1 7 []] ++ .event 1 [2, 3] :: [] ∧ ∀ f ∈ [InFrame.request 1 7 []], f.isEvent = false := by
  decide +kernel

theorem witness_FrameErrorsAreCounted :
    let s := quiet.withLink 13
      { linkUp with ingress := [.ready, .ready, .ready, .ready], errors := 7 }
    let good : Wire := { kind := 0x0E, body := [], check := frameCheck 0x0E [] }
    let bad : Wire := { kind := 0x0E, body := [], check := 0 }
    s.links[13].state = .up ∧ bad.body.length ≤ 255 ∧ bad.check ≠ frameCheck bad.kind bad.body ∧
      (good.check = frameCheck good.kind good.body ∧ good.kind ≠ 0x01 ∧ 4 ≤ s.links[13].ingress.length) ∧
      quiet.links[13].errors + 1 < quiet.links[13].record.errorLimit.val ∧
      s.links[13].record.errorLimit.val ≤ s.links[13].errors + 1 := by
  decide +kernel

theorem witness_WrongFramesAreReported :
    let wrong : Wire := { kind := 0x11, body := [], check := frameCheck 0x11 [] }
    let long : Wire := { kind := 0x0E, body := [0], check := frameCheck 0x0E [0] }
    quiet.links[13].state = .up ∧ quiet.links[13].ingress.length < 4 ∧
      (wrong.body.length ≤ 255 ∧ wrong.kind ≠ 0x01 ∧ peerSends 13 wrong.kind = false) ∧
      (long.body.length ≤ 255 ∧ long.kind ≠ 0x01 ∧ peerSends 13 long.kind = true ∧
        lengthAgrees long.kind long.body.length = false) := by
  decide +kernel

/-! ### Arrivals -/

/-- The QUEUE entry of 3.12: limit 2, BROADCAST to targets 0, 1 and 3. -/
def broadcast : Entry :=
  { valid := true, vector := 12, level := 2, mode := .queue, queueLimit := 2, distribution := .broadcast,
    targets := 0b1011 }

theorem witness_ArrivalsAreRefused_window :
    let s := mapped (arriving quiet 5 32 []) 5 100 32 broadcast
    let o : Origin := { source := 5, event := 32 }
    s.loading = false ∧ s.arriving[(5 : SourceLink)] = some { session := 1, event := 32, payload := [] } ∧ o.source.val = (5 : SourceLink).val ∧
      s.activeBank.windows[o.source].size.val ≤ (32 : Byte).toNat := by
  decide +kernel

theorem witness_ArrivalsAreRefused_unmapped :
    let s := mapped (arriving quiet 5 0 []) 5 511 1 Entry.start
    let o : Origin := { source := 5, event := 0 }
    s.arriving[(5 : SourceLink)] = some { session := 1, event := 0, payload := [] } ∧ Reaches s o 511 ∧
      RefusedAt s 511 8 .unmapped none 0 :=
  ⟨by decide +kernel, by decide +kernel, by decide +kernel, by decide +kernel⟩

theorem witness_ArrivalsAreRefused_queueFull :
    let s := mapped
      (holding (arriving quiet 5 0 []) [held 5 1 120 2 .queue, held 6 1 120 2 .queue]) 5 120 1 broadcast
    let o : Origin := { source := 5, event := 0 }
    Reaches s o 120 ∧ RefusedAt s 120 8 .queueFull (some 1) 2 :=
  ⟨by decide +kernel, by decide +kernel, by decide +kernel, by decide +kernel, by decide +kernel,
    1, by decide +kernel, rfl, by decide +kernel, by decide +kernel⟩

/-- A pool with `n` records, in the slots 0 to n less 1. -/
def nearlyFull (n : Nat) : State :=
  holding quiet ((List.range n).map fun k => held (Fin.ofNat 384 k) 0 9 7 .queue)

theorem nearlyFull_slots (n : Nat) :
    (nearlyFull n).records.map Record.slot = (List.range n).map (Fin.ofNat 384) := by
  simp only [nearlyFull, holding, List.map_map]
  rfl

theorem slots_sound_of_range {s : State} {n : Nat} (hn : n ≤ 384)
    (h : s.records.map Record.slot = (List.range n).map (Fin.ofNat 384)) : SlotsSound s := by
  unfold SlotsSound
  rw [h]
  refine List.Nodup.map_on ?_ List.nodup_range
  intro a ha b hb hab
  have ha' : a % 384 = a := Nat.mod_eq_of_lt (by have := List.mem_range.mp ha; omega)
  have hb' : b % 384 = b := Nat.mod_eq_of_lt (by have := List.mem_range.mp hb; omega)
  have := congrArg Fin.val hab
  simp only [Fin.ofNat] at this
  omega

theorem free_count_of_range {s : State} {n : Nat} (hn : n ≤ 384)
    (h : s.records.map Record.slot = (List.range n).map (Fin.ofNat 384)) : s.freeCount = 384 - n := by
  have hl := congrArg List.length h
  simp only [List.length_map, List.length_range] at hl
  have := State.freeCount_add_records (slots_sound_of_range hn h)
  omega

/-- The arrival of 3.12, event 5, at a pool of `n` records. -/
def atPool (n : Nat) : State :=
  mapped (arriving (nearlyFull n) 7 0 []) 7 4 64 (direct 2 6 .merge 61)

theorem atPool_admitted : Admitted (atPool 376) 4 ∧ (atPool 376).neededAt 4 = 1 := by decide +kernel

theorem witness_ArrivalsAreRefused_poolFull :
    Reaches (atPool 376) { source := 7, event := 0 } 4 ∧ RefusedAt (atPool 376) 4 8 .poolFull none 8 := by
  have hf : (atPool 376).freeCount = 8 := free_count_of_range (by decide) (nearlyFull_slots 376)
  refine ⟨by decide +kernel, by decide +kernel, atPool_admitted.1, rfl, hf.symm, ?_, ?_⟩
  · rw [atPool_admitted.2]
    decide
  · rw [atPool_admitted.2, hf]
    decide

/-- An internal arrival that meets a pool with every slot taken. -/
def internalAtFull : State :=
  mapped (presenting (nearlyFull 384) (.fault .noImage) 1) 12 4 14 (direct 2 6 .merge 61)

theorem internalAtFull_admitted : Admitted internalAtFull 4 ∧ internalAtFull.neededAt 4 = 1 := by
  decide +kernel

theorem witness_ArrivalsAreRefused_internal :
    internalAtFull.loading = false ∧
      internalAtFull.presented = some { event := .fault .noImage, payload := 1 } ∧
      Reaches internalAtFull { source := 12, event := 0 } 4 ∧
      RefusedAt internalAtFull 4 0 .poolFull none 0 := by
  have hf : internalAtFull.freeCount = 0 := free_count_of_range (by decide) (nearlyFull_slots 384)
  refine ⟨rfl, rfl, by decide +kernel, by decide +kernel, internalAtFull_admitted.1, rfl, hf.symm, ?_, ?_⟩
  · rw [internalAtFull_admitted.2]
    decide
  · rw [internalAtFull_admitted.2, hf]
    decide

theorem witness_MaskedArrivalsAreLatched :
    let s := mapped (arriving (presenting busy (.fault .noImage) 0) 6 0 []) 6 40 1 (direct 1 3 .merge 17)
    let u := mapped s 12 40 1 Entry.start
    (Reaches s { source := 6, event := 0 } 40 ∧ s.maskMap[(40 : Index)] = true ∧
        s.arriving[(6 : SourceLink)] = some { session := 1, event := 0, payload := [] }) ∧
      Reaches u { source := 12, event := 0 } 40 ∧ u.maskMap[(40 : Index)] = true ∧ u.loading = false ∧
      u.presented = some { event := .fault .noImage, payload := 0 } := by
  decide +kernel

/-- With 9 free slots an arrival for one target is placed. -/
theorem witness_ArrivalsArePlaced :
    let s := atPool 375
    SlotsSound s ∧ s.activeBank.entries[(4 : Index)].legal = true ∧ Reaches s { source := 7, event := 0 } 4 ∧
      Admitted s 4 ∧ s.arriving[(7 : SourceLink)] = some { session := 1, event := 0, payload := [] } ∧
      s.neededAt 4 + 8 ≤ s.freeCount := by
  have hf : (atPool 375).freeCount = 9 := free_count_of_range (by decide) (nearlyFull_slots 375)
  have hn : (atPool 375).neededAt 4 = 1 := by decide +kernel
  refine ⟨slots_sound_of_range (by decide) (nearlyFull_slots 375), by decide +kernel, by decide +kernel,
    by decide +kernel, by decide +kernel, ?_⟩
  rw [hf, hn]

/-- An internal arrival for one target is placed with 1 free slot. -/
theorem witness_ArrivalsArePlaced_internal :
    let s := mapped (presenting (nearlyFull 383) (.fault .noImage) 5) 12 4 14 (direct 2 6 .merge 61)
    SlotsSound s ∧ Reaches s { source := 12, event := 0 } 4 ∧ Admitted s 4 ∧ s.loading = false ∧
      s.presented = some { event := .fault .noImage, payload := 5 } ∧
      s.neededAt 4 ≤ s.freeCount := by
  have h := nearlyFull_slots 383
  refine ⟨slots_sound_of_range (by decide) h, by decide +kernel, by decide +kernel, rfl, rfl, ?_⟩
  have hf : (mapped (presenting (nearlyFull 383) (.fault .noImage) 5) 12 4 14
      (direct 2 6 .merge 61)).freeCount = 1 := free_count_of_range (by decide) h
  have hn : (mapped (presenting (nearlyFull 383) (.fault .noImage) 5) 12 4 14
      (direct 2 6 .merge 61)).neededAt 4 = 1 := by decide +kernel
  rw [hf, hn]

/-- A release at a BROADCAST entry is placed for each of its three targets with 11 free slots. -/
theorem witness_ArrivalsArePlaced_release :
    let o : Origin := { source := 5, event := 0 }
    let s := releasing (mapped (nearlyFull 373) 5 120 1 broadcast) 120 o
    SlotsSound s ∧ s.activeBank.entries[(120 : Index)].legal = true ∧ Admitted s 120 ∧ s.loading = false ∧
      s.current = some (.unmask (releaseRun 120 o)) ∧
      (releaseRun 120 o).presented = some { index := 120, origin := o } ∧ s.neededAt 120 + 8 ≤ s.freeCount := by
  have h := nearlyFull_slots 373
  refine ⟨slots_sound_of_range (by decide) h, by decide +kernel, by decide +kernel, rfl, rfl, rfl, ?_⟩
  have hf : (releasing (mapped (nearlyFull 373) 5 120 1 broadcast) 120 { source := 5, event := 0 }).freeCount = 11 :=
    free_count_of_range (by decide) h
  have hn : (releasing (mapped (nearlyFull 373) 5 120 1 broadcast) 120 { source := 5, event := 0 }).neededAt 120 =
      3 := by decide +kernel
  rw [hf, hn]

theorem witness_RepeatedArrivalsCoalesce :
    let r := { held 18 2 70 1 .count with count := some 15 }
    let s := mapped (holding (arriving quiet 3 0 []) [r]) 3 70 16 (direct 2 1 .count 49)
    SlotsSound s ∧ s.arriving[(3 : SourceLink)] = some { session := 1, event := 0, payload := [] } ∧
      Reaches s { source := 3, event := 0 } 70 ∧ Admitted s 70 ∧
      s.activeBank.entries[(70 : Index)].mode ≠ .queue ∧
      s.chosenTargets 70 s.activeBank.entries[(70 : Index)] = [2] ∧ s.waitingRecords 2 70 .count = [r] := by
  decide +kernel

/-- A count of 15 and an internal arrival; a MERGE record and a release. -/
theorem witness_RepeatedArrivalsCoalesce_others :
    let r := { held 18 2 70 1 .count with count := some 15 }
    let s := mapped (holding (presenting quiet (.fault .noImage) 5) [r]) 12 70 14 (direct 2 1 .count 49)
    let m := held 18 2 70 1 .merge
    let u := releasing (mapped (holding quiet [m]) 3 70 16 (direct 2 1 .merge 49)) 70 { source := 3, event := 0 }
    (SlotsSound s ∧ s.loading = false ∧ Reaches s { source := 12, event := 0 } 70 ∧ Admitted s 70 ∧
        s.chosenTargets 70 s.activeBank.entries[(70 : Index)] = [2] ∧ s.waitingRecords 2 70 .count = [r]) ∧
      SlotsSound u ∧ u.loading = false ∧ Admitted u 70 ∧
      u.chosenTargets 70 u.activeBank.entries[(70 : Index)] = [2] ∧ u.waitingRecords 2 70 .merge = [m] ∧
      u.current = some (.unmask (releaseRun 70 { source := 3, event := 0 })) := by
  decide +kernel

theorem witness_RotateChoosesNextInTurn :
    let e : Entry := { broadcast with distribution := .rotate }
    e.legal = true ∧ e.valid = true ∧ e.distribution = .rotate ∧ broadcast.legal = true ∧
      broadcast.valid = true ∧ broadcast.distribution ≠ .rotate := by
  decide +kernel

theorem witness_ReleasesArePlacedOrLost :
    let o : Origin := { source := 6, event := 0 }
    let s := releasing (mapped (nearlyFull 2) 6 40 1 (direct 3 3 .merge 17)) 40 o
    let u := releaseRun 40 o
    s.loading = false ∧ s.current = some (.unmask u) ∧ u.presented = some { index := 40, origin := o } ∧
      SlotsSound s ∧ Admitted s 40 ∧
      s.chosenTargets 40 s.activeBank.entries[(40 : Index)] = [3] ∧ s.waitingRecords 3 40 .merge = [] ∧
      9 ≤ s.freeCount ∧ (2 : SlotNo) ∉ s.records.map Record.slot ∧
      ∀ j < (2 : SlotNo), j ∈ s.records.map Record.slot := by
  have h := nearlyFull_slots 2
  refine ⟨rfl, rfl, rfl, by decide +kernel, by decide +kernel, by decide +kernel, by decide +kernel, ?_,
    by decide +kernel, ?_⟩
  · have hf : (releasing (mapped (nearlyFull 2) 6 40 1 (direct 3 3 .merge 17)) 40
        { source := 6, event := 0 }).freeCount = 382 := free_count_of_range (by decide) h
    rw [hf]
    decide
  · intro j hj
    have hv : j.val < 2 := hj
    have : j = 0 ∨ j = 1 := by
      simp only [Fin.ext_iff]
      have : (0 : SlotNo).val = 0 := rfl
      have : (1 : SlotNo).val = 1 := rfl
      omega
    rcases this with rfl | rfl <;> decide +kernel

/-- An UNMASK that is done, with its response left. -/
theorem witness_ReleasesArePlacedOrLost_done :
    let u := { releaseRun 511 { source := 6, event := 0 } with presented := none }
    let s : State := { quiet with current := some (.unmask u) }
    s.loading = false ∧ s.current = some (.unmask u) ∧ u.presented = none ∧ u.last.val < u.next := by
  decide +kernel

theorem witness_ReleasesArePlacedOrLost_refused :
    RefusedAt (releasing (mapped quiet 6 40 1 Entry.start) 40 { source := 6, event := 0 }) 40 8 .unmapped none 0 :=
  ⟨by decide +kernel, by decide +kernel, rfl, rfl⟩

/-! ### Target frames and timers -/

theorem witness_OffersAreAnswered :
    let r := { held 4 1 210 5 .merge with offer := some { tag := 10, void := false } }
    let s := offering quiet (held 4 1 210 5 .merge) 10 3 false
    (received s 13 (.claim 10)).currentOffer 1 =
        some ({ tag := 10, slot := 4 }, r, { tag := 10, void := false }) ∧
      r.target = 1 ∧ (received s 13 (.claim 10)).targetFrame 1 = some (.claim 10) ∧
      (received s 13 (.refuse 10)).targetFrame 1 = some (.refuse 10) := by
  decide +kernel

theorem witness_VoidOffersEnd :
    let r := { held 4 1 210 5 .merge with offer := some { tag := 10, void := true } }
    let s := offering quiet (held 4 1 210 5 .merge) 10 3 true
    (received s 13 (.claim 10)).currentOffer 1 =
        some ({ tag := 10, slot := 4 }, r, { tag := 10, void := true }) ∧
      (received s 13 (.claim 10)).targetFrame 1 = some (.claim 10) ∧
      (received s 13 (.refuse 10)).targetFrame 1 = some (.refuse 10) ∧
      s.targets[(1 : TargetNo)].claimTimer.isSome = true := by
  decide +kernel

theorem witness_WrongTagsAreRefused :
    let s := received (offering quiet (held 4 1 210 5 .merge) 10 3 false) 13 (.claim 11)
    (s.targetFrame 1 = some (.claim 11) ∧ (s.currentOffer 1).isSome = true ∧ (11 : Byte) ≠ 10) ∧
      (received (targetIn quiet 1 .lost) 13 (.refuse 5)).targetFrame 1 = some (.refuse 5) ∧
      (received (targetIn quiet 1 .lost) 13 (.refuse 5)).targets[(1 : TargetNo)].state ≠ .offered := by
  decide +kernel

theorem witness_DoneEndsTopService :
    let s := received (quiet.withTarget 1 { Target.fresh with stack := [served 2 11 44, served 5 10 210] }) 13
      (.done 10)
    s.targetFrame 1 = some (.done 10) ∧
      (s.targets[(1 : TargetNo)].stack = [served 2 11 44] ++ served 5 10 210 :: [] ∧
        (∀ x ∈ [served 2 11 44], x.claimTag ≠ 10) ∧ (served 5 10 210).claimTag = 10) ∧
      (served 2 11 44).claimTag = 11 ∧ (∀ x ∈ s.targets[(1 : TargetNo)].stack, x.claimTag ≠ 12) := by
  decide +kernel

theorem witness_ReadyLevelAndSleepAreTaken :
    let s := holding quiet [held 8 0 212 6 .merge]
    (received s 12 .ready).targetFrame 0 = some .ready ∧
      (received s 12 (.level 8)).targetFrame 0 = some (.level 8) ∧
      (received s 12 (.level 9)).targetFrame 0 = some (.level 9) ∧ 9 ≤ (9 : Byte).toNat ∧
      (received s 12 (.sleep 8)).targetFrame 0 = some (.sleep 8) ∧ 8 ≤ (8 : Byte).toNat ∧
      ((received (targetIn s 0 .offered) 12 (.sleep 7)).targetFrame 0 = some (.sleep 7) ∧
        (targetIn s 0 .offered).targets[(0 : TargetNo)].state = .offered) ∧
      ((received s 12 (.sleep 5)).targetFrame 0 = some (.sleep 5) ∧
        ∀ r ∈ s.records, r.target = 0 → (5 : Level) < r.level) ∧
      (received s 12 (.sleep 6)).targetFrame 0 = some (.sleep 6) ∧
      (∃ r ∈ s.records, r.target = 0 ∧ r.level ≤ 6 ∧ ∀ x ∈ s.records, x.target = 0 → r.level ≤ x.level) := by
  decide +kernel

theorem witness_TimersExpire :
    let s := offering quiet (held 4 1 210 5 .merge) 10 1 false
    (s.isUp (targetLink 1) = true ∧ (s.currentOffer 1).isSome = true ∧
        s.targets[(1 : TargetNo)].claimTimer.isSome = true ∧ s.targets[(1 : TargetNo)].retriesLeft = some 1) ∧
      (offering quiet (held 4 1 210 5 .merge) 10 0 false).targets[(1 : TargetNo)].retriesLeft = some 0 ∧
      ((waking 0).targets[(0 : TargetNo)].state = .waking ∧
        (waking 0).targets[(0 : TargetNo)].claimTimer.isSome = true ∧
        (waking 0).targets[(0 : TargetNo)].retriesLeft = some 0 ∧
        (waking 7).targets[(0 : TargetNo)].retriesLeft = some 7 ∧
        (waking 0).targets[(0 : TargetNo)].wakeSent = some 1) ∧
      (quiet.withTarget 1
          { Target.resting .held Target.fresh with holdTimer := some 16 }).targets[(1 : TargetNo)].state =
        .held := by
  decide +kernel

/-! ### Requests -/

theorem witness_RequestsAreAdmittedOrFull :
    let one := { quiet with queue := [ask .commit [0]] }
    let two := { quiet with queue := [ask .commit [0], ask .readStatus []] }
    (received one 12 (.request 23 0x07 [])).waiting 12 InFrame.isRequest = some (.request 23 0x07 []) ∧
      (one.queue.length < 8 ∧ (one.queue.filter fun r => r.link = 12).length < 2) ∧
      2 ≤ (two.queue.filter fun r => r.link = 12).length ∧
      8 ≤ (List.replicate 8 (ask .commit [0])).length := by
  decide +kernel

theorem witness_RequestsAreTurnedAway :
    let s := asking (quiet.withLink 12 { linkUp with record := LinkRecord.start 0 }) .save []
    let u : Request := { ask .save [] with operation := 0x77 }
    (Asked s .save (ask .save []) ∧ s.links[(12 : LinkNo)].record.rights.has Operation.save.right = false) ∧
      (({ quiet with queue := [u] } : State).nextRequest = some u ∧ (∀ op ∈ operations, op.code ≠ 0x77)) ∧
      Granted (asking quiet .writeEntry [0, 0]) .writeEntry (ask .writeEntry [0, 0]) [0, 0] ∧
      Operation.fits 2 .writeEntry = false := by
  decide +kernel

/-- Operands at the first value out of range, and at the last value in range, of each operation. -/
theorem witness_RequestsAreTurnedAway_operands :
    let bad := quiet.badOperands
    (bad .readLink [16] = some .badIndex ∧ bad .readLink [15] = none) ∧
      (bad .resetLink [16] = some .badIndex ∧ bad .resetLink [15] = none) ∧
      (bad .setLink [16, 0, 0, 2, 0, 8, 0] = some .badIndex ∧ bad .setLink [15, 0, 16, 1, 1, 7, 1] = some .badValue ∧
        bad .setLink [11, 0, 15, 2, 0, 8, 0] = some .badValue ∧ bad .setLink [11, 0, 15, 1, 0, 8, 0] = none ∧
        bad .setLink [12, 0, 1, 0, 1, 8, 1] = some .badValue ∧ bad .setLink [12, 0, 1, 0, 1, 7, 1] = none) ∧
      (bad .readTarget [4, 3] = some .badIndex ∧ bad .readTarget [3, 3] = some .badValue ∧
        bad .readTarget [3, 2] = none) ∧
      (bad .readEntry [2, 2, 0, 0] = some .badIndex ∧ bad .readEntry [2, 1, 0xFF, 1] = some .badValue ∧
        bad .readEntry [1, 1, 0xFC, 4] = none) ∧
      (bad .readWindow [2, 13] = some .badIndex ∧ bad .readWindow [2, 12] = some .badValue ∧
        bad .readWindow [1, 12] = none) ∧
      (bad .readPending [3, 8, 1, 0x80, 0] = some .badIndex ∧ bad .readPending [3, 7, 1, 0x80, 1] = some .badValue ∧
        bad .readPending [3, 7, 1, 0x7F, 4] = none) ∧
      (bad .unmask [0, 0, 2, 0] = some .badIndex ∧ bad .mask [1, 0xFF, 1, 0xFF] = none) ∧
      (bad .readMask [1, 0xFF, 65] = some .badValue ∧ bad .readMask [1, 0xC1, 64] = some .badIndex ∧
        bad .readMask [1, 0xC0, 64] = none) ∧
      (bad .readFaults [8, 1] = some .badValue ∧ bad .readFaults [7, 4] = none) ∧
      (bad .clearFaults [9, 0] = some .badValue ∧ bad .clearFaults [1, 2] = some .badValue ∧
        bad .clearFaults [8, 1] = none) ∧
      Granted (asking quiet .setLink [16, 0, 0, 2, 0, 8, 0]) .setLink (ask .setLink [16, 0, 0, 2, 0, 8, 0])
        [16, 0, 0, 2, 0, 8, 0] := by
  decide +kernel

theorem witness_FreezeAndBusyBarRequests :
    let frozen := { quiet with frozen := true }
    let copying := { quiet with copyState := .copying }
    (Granted (asking savingNow .freeze []) .freeze (ask .freeze []) [] ∧ Operation.fits 0 .freeze = true) ∧
      (Granted (asking frozen .commit [0]) .commit (ask .commit [0]) [0] ∧ frozen.frozen = true) ∧
      (Granted (asking copying .save []) .save (ask .save []) [] ∧ copying.copyState = .copying) ∧
      (Granted (asking { copying with frozen := true } .readWindow [1, 13]) .readWindow (ask .readWindow [1, 13])
        [1, 13] ∧ Operation.fits 2 .readWindow = true) ∧
      (Granted (asking savingNow .commit [1]) .commit (ask .commit [1]) [1] ∧ savingNow.saving.isSome = true ∧
        savingNow.frozen = false ∧ savingNow.copyState = .idle) := by
  decide +kernel

theorem witness_TableWritesReachStagingBank :
    let last := bytesOf 2 (511 : Half) ++ [0x31811404].flatMap (bytesOf 4 : Word → List Byte)
    let beyond := bytesOf 2 (511 : Half) ++ [0x31811404, 0].flatMap (bytesOf 4 : Word → List Byte)
    Granted (asking quiet .writeEntry last) .writeEntry (ask .writeEntry last) last ∧
      Granted (asking quiet .writeEntry beyond) .writeEntry (ask .writeEntry beyond) beyond ∧
      (511 + 1 ≤ 512 ∧ 512 < 511 + 2) ∧ (Entry.ofCode 0x31811404).isSome = true ∧ Entry.ofCode 0 = none ∧
      Granted (asking quiet .writeWindow (12 :: bytesOf 2 (0xFF81 : Half))) .writeWindow
        (ask .writeWindow (12 :: bytesOf 2 (0xFF81 : Half))) (12 :: bytesOf 2 (0xFF81 : Half)) ∧
      Window.ofCode 0xFF81 = some { base := 511, size := 1 } ∧ Window.ofCode 0xFF82 = none ∧
      13 ≤ (13 : Byte).toNat := by
  decide +kernel

theorem witness_CommitSwitchesBanks :
    Granted (asking quiet .commit [0]) .commit (ask .commit [0]) [0] ∧
      Granted (asking quiet .commit [1]) .commit (ask .commit [1]) [1] ∧
      Granted (asking quiet .commit [2]) .commit (ask .commit [2]) [2] ∧ quiet.frozen = false ∧
      quiet.copyState = .idle ∧ quiet.saving = none ∧
      ({ quiet with copyState := .copying } : State).copyState = .copying := by
  decide +kernel

theorem witness_ReadsChangeNothing :
    Granted (asking quiet .readLink [15]) .readLink (ask .readLink [15]) [15] ∧
      Granted (asking quiet .readTarget [3, 2]) .readTarget (ask .readTarget [3, 2]) [3, 2] ∧
      Granted (asking quiet .readEntry [1, 1, 0xFC, 4]) .readEntry (ask .readEntry [1, 1, 0xFC, 4])
        [1, 1, 0xFC, 4] ∧
      Granted (asking quiet .readWindow [1, 12]) .readWindow (ask .readWindow [1, 12]) [1, 12] ∧
      Granted (asking quiet .readPending [3, 7, 1, 0x7F, 4]) .readPending (ask .readPending [3, 7, 1, 0x7F, 4])
        [3, 7, 1, 0x7F, 4] ∧
      Granted (asking quiet .readMask [1, 0xC0, 64]) .readMask (ask .readMask [1, 0xC0, 64]) [1, 0xC0, 64] ∧
      Granted (asking quiet .readFaults [7, 4]) .readFaults (ask .readFaults [7, 4]) [7, 4] ∧
      Granted (asking quiet .readStatus []) .readStatus (ask .readStatus []) [] := by
  decide +kernel

theorem witness_ReadResultsShowState :
    Granted (asking quiet .readLink [BitVec.ofNat 8 (15 : LinkNo).val]) .readLink (ask .readLink [15]) [15] ∧
      Granted (asking quiet .readEntry (0x01 :: (bytesOf 2 (508 : Half) ++ [4]))) .readEntry
        (ask .readEntry (0x01 :: (bytesOf 2 (508 : Half) ++ [4]))) (0x01 :: (bytesOf 2 (508 : Half) ++ [4])) ∧
      Granted (asking quiet .readMask (bytesOf 2 (448 : Half) ++ [64])) .readMask
        (ask .readMask (bytesOf 2 (448 : Half) ++ [64])) (bytesOf 2 (448 : Half) ++ [64]) ∧
      quiet.faults.length ≤ 8 ∧ quiet.copyState = .idle := by
  decide +kernel

theorem witness_TargetAndPoolResultsShowState :
    let asked := fun (op : Operation) (operands : List Byte) =>
      Granted { busy with queue := [ask op operands] } op (ask op operands) operands
    asked .readTarget [3, 0] ∧ asked .readTarget [1, 1] ∧ asked .readTarget [1, 2] ∧
      busy.targets[(1 : TargetNo)].stack.reverse[1]? = some (served 2 11 44) ∧
      asked .readPending [2, 1, 0x00, 0x00, 1] ∧ asked .readPending [3, 7, 0x01, 0x7F, 4] ∧
      bytesOf 2 (383 : Half) = [0x01, 0x7F] ∧
      (busy.records.filter fun x => x.target == 2 && x.level == 1).length = 2 ∧
      (∃ o x m, busy.currentOffer 2 = some (o, x, m)) ∧ ∀ x ∈ busy.records, RecordSound x := by
  refine ⟨by decide +kernel, by decide +kernel, by decide +kernel, by decide +kernel, by decide +kernel,
    by decide +kernel, by decide +kernel, by decide +kernel, ?_, by decide +kernel⟩
  have h : (busy.currentOffer 2).isSome = true := by decide +kernel
  obtain ⟨⟨o, x, m⟩, h⟩ := Option.isSome_iff_exists.mp h
  exact ⟨o, x, m, h⟩

theorem witness_LinkRequestsActOnLinks_set :
    let record : LinkRecord := { rights := Rights.all, errorLimit := 15, autoRetrain := false }
    let timer : TimerRecord := { claimTimeout := 255, retries := 7, holdTime := 1 }
    let operands := BitVec.ofNat 8 (15 : LinkNo).val :: (bytesOf 3 record.code ++ bytesOf 3 timer.code)
    record.legal = true ∧ timer.legal = true ∧ (bytesOf 3 timer.code).length = 3 ∧ quiet.frozen = false ∧
      Granted (asking quiet .setLink operands) .setLink (ask .setLink operands) operands := by
  decide +kernel

theorem witness_LinkRequestsActOnLinks_reset :
    Granted (asking quiet .resetLink [12]) .resetLink (ask .resetLink [12]) [12] ∧
      (Granted (asking (linkIn quiet 5 .training) .resetLink [5]) .resetLink (ask .resetLink [5]) [5] ∧
        (linkIn quiet 5 .training).links[(5 : LinkNo)].state = .training) ∧
      Granted (asking quiet .resetLink [15]) .resetLink (ask .resetLink [15]) [15] ∧
      quiet.links[(15 : LinkNo)].state = .up := by
  decide +kernel

theorem witness_LinkRequestsActOnLinks_sound :
    LinksSound (asking quiet .resetLink [15]) ∧ DeliverySound (asking quiet .resetLink [15]) := by
  decide +kernel

theorem witness_RestartClearsDelivery :
    let s := { busy with queue := [ask .restart []] }
    let u := restarting s [.pointers, .delivery]
    (Granted s .restart (ask .restart []) [] ∧ DeliverySound s ∧ LinksSound s) ∧
      u.loading = false ∧ DeliverySound u ∧ LinksSound u :=
  ⟨by decide +kernel, by decide +kernel, by decide +kernel, by decide +kernel⟩

theorem witness_CancelRemovesPending :
    let s := { busy with queue := [ask .cancel (2 :: bytesOf 2 (70 : Half))] }
    (Granted s .cancel (ask .cancel (2 :: bytesOf 2 (70 : Half))) (2 :: bytesOf 2 (70 : Half)) ∧
        ∃ x ∈ s.records, x.target = 2 ∧ x.index = 70) ∧
      Granted (asking quiet .cancel (4 :: bytesOf 2 (511 : Half))) .cancel
        (ask .cancel (4 :: bytesOf 2 (511 : Half))) (4 :: bytesOf 2 (511 : Half)) ∧
      (Granted (asking quiet .cancel (3 :: bytesOf 2 (511 : Half))) .cancel
          (ask .cancel (3 :: bytesOf 2 (511 : Half))) (3 :: bytesOf 2 (511 : Half)) ∧
        (∀ x ∈ quiet.records, ¬ (x.target = 3 ∧ x.index = 511))) ∧
      (4 ≤ (4 : Byte).toNat ∧ 512 ≤ (512 : Half).toNat) := by
  decide +kernel

theorem witness_MaskRangesAreSetAndCleared :
    let whole := bytesOf 2 (BitVec.ofNat 16 0) ++ bytesOf 2 (BitVec.ofNat 16 511)
    let back := bytesOf 2 (BitVec.ofNat 16 511) ++ bytesOf 2 (BitVec.ofNat 16 510)
    let upTo40 := bytesOf 2 (BitVec.ofNat 16 38) ++ bytesOf 2 (BitVec.ofNat 16 511)
    (Granted (asking quiet .mask whole) .mask (ask .mask whole) whole ∧
        Granted (asking quiet .mask back) .mask (ask .mask back) back) ∧
      (Granted (asking quiet .unmask whole) .unmask (ask .unmask whole) whole ∧ quiet.current = none) ∧
      Granted (asking latched .unmask upTo40) .unmask (ask .unmask upTo40) upTo40 ∧
      latched.latches[(40 : Index)] = some { source := 6, event := 0 } ∧
      latched.latches[(38 : Index)] = none ∧ latched.latches[(39 : Index)] = none := by
  decide +kernel

/-- The clauses on a request that is current: the last index of a MASK and one before it, an UNMASK with an index
to take, one that is done and one that waits for a release; an index of 512 at either end. -/
theorem witness_MaskRangesAreSetAndCleared_current :
    let first : MaskRun := { request := ask .mask [], next := 510, last := 511, newly := 0 }
    let one : UnmaskRun := { releaseRun 40 { source := 6, event := 0 } with next := 40, presented := none }
    (masking.loading = false ∧
        masking.current = some (.mask { request := ask .mask [0, 38, 0, 41], next := 41, last := 41, newly := 3 })) ∧
      ((511 : Index).val = first.next.val + 1 ∧ (511 : Index) ≤ first.last) ∧
      (one.presented = none ∧ one.next = (40 : Index).val ∧ (40 : Index) ≤ one.last) ∧
      ({ one with next := 41 }.presented = none ∧ { one with next := 41 }.last.val < { one with next := 41 }.next) ∧
      (releaseRun 40 { source := 6, event := 0 }).presented = some { index := 40, origin := { source := 6, event := 0 } } ∧
      (512 ≤ (512 : Half).toNat ∧ (510 : Half) < 511) ∧
      Granted (asking quiet .unmask (bytesOf 2 (0 : Half) ++ bytesOf 2 (512 : Half))) .unmask
        (ask .unmask (bytesOf 2 (0 : Half) ++ bytesOf 2 (512 : Half)))
        (bytesOf 2 (0 : Half) ++ bytesOf 2 (512 : Half)) := by
  decide +kernel

theorem witness_SaveWritesTheOtherSlot :
    let spent := { quiet with summary := #v[none, some 0xFFFFFFFF] }
    (Granted (asking quiet .save []) .save (ask .save []) [] ∧
        ∀ k : ImageSlot, quiet.summary[k] ≠ some 0xFFFFFFFF) ∧
      (Granted (asking spent .save []) .save (ask .save []) [] ∧ spent.summary[(1 : ImageSlot)] = some 0xFFFFFFFF) ∧
      (savingNow.isUp 12 = true ∧ savingNow.links[(12 : LinkNo)].session = 1 ∧ savingNow.saving.isSome = true ∧
        savingNow.saveRecord = some { link := 12, session := 1, sequence := 7 }) ∧
      (savingNow.withLink 12 { linkUp with session := 2 }).links[(12 : LinkNo)].session ≠ 1 := by
  decide +kernel

end Sys2Proof.Tests
end

section
/-! The target choice of an arrival (R51, R53): the search order of a ROTATE entry lists the set by the distance
from the pointer, so the first target of the order that passes a test is the nearest that does. -/

open Sys2Proof Sys2Proof.Machine

namespace Sys2Proof.Proofs

/-! ## The target set of an entry (R3) -/

@[simp] theorem mem_members (e : Entry) (t : TargetNo) :
    t ∈ e.members ↔ e.targets.getLsbD t.val = true := by
  simp [Entry.members]

theorem members_pairwise_lt (e : Entry) : e.members.Pairwise (· < ·) :=
  (List.pairwise_lt_finRange 4).filter _

theorem exists_mem_members {e : Entry} (hlegal : e.legal = true) (hvalid : e.valid = true) :
    ∃ t, t ∈ e.members := by
  have hset : e.targets ≠ 0 := by
    intro hzero
    simp [Entry.legal, hvalid, hzero] at hlegal
  by_contra hnone
  refine hset (BitVec.eq_of_getLsbD_eq fun n hn => ?_)
  have hout : ⟨n, hn⟩ ∉ e.members := fun h => hnone ⟨_, h⟩
  simpa using hout

theorem members_length_of_direct {e : Entry} (hlegal : e.legal = true) (hvalid : e.valid = true)
    (hdirect : e.distribution = .direct) : e.members.length = 1 := by
  simp [Entry.legal, hvalid, hdirect] at hlegal
  exact hlegal.2.2

/-! ## DIRECT and BROADCAST (R51) -/

theorem chosenTargets_eq_members (s : State) (i : Index) {e : Entry} (hlegal : e.legal = true)
    (hvalid : e.valid = true) (hrotate : e.distribution ≠ .rotate) :
    s.chosenTargets i e = e.members := by
  cases hd : e.distribution with
  | direct =>
    have hone := members_length_of_direct hlegal hvalid hd
    simp only [State.chosenTargets, hd]
    exact List.take_of_length_le hone.le
  | broadcast => simp only [State.chosenTargets, hd]
  | rotate => exact absurd hd hrotate

/-! ## The search order of ROTATE (R53) -/

/-- How many targets the search passes, counting upwards and wrapping, before it comes to `t`. -/
def turnDistance (pointer : Option TargetNo) (t : TargetNo) : Nat :=
  match pointer with
  | some p => (t.val + 3 - p.val) % 4
  | none => t.val

@[simp] theorem mem_searchOrder (members : List TargetNo) (pointer : Option TargetNo) (t : TargetNo) :
    t ∈ searchOrder members pointer ↔ t ∈ members := by
  cases pointer with
  | none => rfl
  | some p =>
    have hside : p < t ∨ t ≤ p := lt_or_ge p t
    simp only [searchOrder, List.mem_append, List.mem_filter, decide_eq_true_eq, ← and_or_left,
      hside, and_true]

theorem turnDistance_of_above {p t : TargetNo} (h : p < t) :
    turnDistance (some p) t = t.val - p.val - 1 := by
  rw [Fin.lt_def] at h
  simp only [turnDistance]
  omega

theorem turnDistance_of_not_above {p t : TargetNo} (h : t ≤ p) :
    turnDistance (some p) t = t.val + 3 - p.val := by
  rw [Fin.le_def] at h
  simp only [turnDistance]
  omega

theorem searchOrder_pairwise_turnDistance {members : List TargetNo} (hsorted : members.Pairwise (· < ·))
    (pointer : Option TargetNo) :
    (searchOrder members pointer).Pairwise fun t u => turnDistance pointer t < turnDistance pointer u := by
  cases pointer with
  | none => exact hsorted
  | some p =>
    refine List.pairwise_append.2 ⟨?above, ?others, ?across⟩
    case above =>
      refine (hsorted.filter _).imp_of_mem fun {t u} ht hu htu => ?_
      have hpt : p < t := of_decide_eq_true (List.mem_filter.1 ht).2
      have hpu : p < u := of_decide_eq_true (List.mem_filter.1 hu).2
      rw [turnDistance_of_above hpt, turnDistance_of_above hpu]
      rw [Fin.lt_def] at hpt htu
      omega
    case others =>
      refine (hsorted.filter _).imp_of_mem fun {t u} ht hu htu => ?_
      have htp : t ≤ p := of_decide_eq_true (List.mem_filter.1 ht).2
      have hup : u ≤ p := of_decide_eq_true (List.mem_filter.1 hu).2
      rw [turnDistance_of_not_above htp, turnDistance_of_not_above hup]
      rw [Fin.lt_def] at htu
      omega
    case across =>
      intro t ht u hu
      have hpt : p < t := of_decide_eq_true (List.mem_filter.1 ht).2
      have hup : u ≤ p := of_decide_eq_true (List.mem_filter.1 hu).2
      rw [turnDistance_of_above hpt, turnDistance_of_not_above hup]
      rw [Fin.lt_def] at hpt
      omega

/-! ## The first of an ordered list -/

theorem head_le_of_pairwise_lt {α : Type} {f : α → Nat} {l : List α} {t u : α}
    (hsorted : l.Pairwise fun a b => f a < f b) (hhead : l.head? = some t) (hu : u ∈ l) : f t ≤ f u := by
  obtain ⟨rest, rfl⟩ := List.head?_eq_some_iff.1 hhead
  rcases List.mem_cons.1 hu with rfl | hrest
  · exact le_rfl
  · exact (List.rel_of_pairwise_cons hsorted hrest).le

theorem find_le_of_pairwise_lt {α : Type} {f : α → Nat} {l : List α} {q : α → Bool} {t u : α}
    (hsorted : l.Pairwise fun a b => f a < f b) (hfind : l.find? q = some t) (hu : u ∈ l)
    (hqu : q u = true) : f t ≤ f u :=
  head_le_of_pairwise_lt (hsorted.filter q) (List.head?_filter.trans hfind)
    (List.mem_filter.2 ⟨hu, hqu⟩)

/-! ## The choice of ROTATE (R53) -/

theorem qualifies_iff (s : State) (t : TargetNo) :
    s.qualifies t = true ↔ ¬ (s.targets[t].state = .offline ∨ s.targets[t].state = .lost) := by
  simp [State.qualifies]

theorem chosenTargets_of_find {s : State} {i : Index} {e : Entry} {t : TargetNo}
    (hrotate : e.distribution = .rotate)
    (hfind : (searchOrder e.members s.pointers[i]).find? s.qualifies = some t) :
    s.chosenTargets i e = [t] := by
  simp only [State.chosenTargets, hrotate, hfind, Option.some_or, Option.toList_some]

theorem chosenTargets_of_find_none {s : State} {i : Index} {e : Entry} {t : TargetNo}
    (hrotate : e.distribution = .rotate)
    (hfind : (searchOrder e.members s.pointers[i]).find? s.qualifies = none)
    (hhead : (searchOrder e.members s.pointers[i]).head? = some t) :
    s.chosenTargets i e = [t] := by
  simp only [State.chosenTargets, hrotate, hfind, hhead, Option.none_or, Option.toList_some]

/-- The choice of ROTATE is a nearest target that qualifies or, when none does, a nearest of all. -/
theorem chosenTargets_rotate (s : State) (i : Index) {e : Entry} (hlegal : e.legal = true)
    (hvalid : e.valid = true) (hrotate : e.distribution = .rotate) :
    ∃ t, s.chosenTargets i e = [t] ∧ t ∈ e.members ∧
      ((s.qualifies t = true ∧ ∀ u ∈ e.members, s.qualifies u = true →
          turnDistance s.pointers[i] t ≤ turnDistance s.pointers[i] u) ∨
        ((∀ u ∈ e.members, ¬ s.qualifies u = true) ∧
          ∀ u ∈ e.members, turnDistance s.pointers[i] t ≤ turnDistance s.pointers[i] u)) := by
  have hsorted := searchOrder_pairwise_turnDistance (members_pairwise_lt e) s.pointers[i]
  have hmem := mem_searchOrder e.members s.pointers[i]
  cases hfind : (searchOrder e.members s.pointers[i]).find? s.qualifies with
  | some t =>
    have ht := (hmem t).1 (List.mem_of_find?_eq_some hfind)
    exact ⟨t, chosenTargets_of_find hrotate hfind, ht, .inl ⟨List.find?_some hfind, fun u hu hqu =>
      find_le_of_pairwise_lt hsorted hfind ((hmem u).2 hu) hqu⟩⟩
  | none =>
    have hnone := List.find?_eq_none.1 hfind
    obtain ⟨v, hv⟩ := exists_mem_members hlegal hvalid
    obtain ⟨t, hhead⟩ := Option.isSome_iff_exists.1
      (List.isSome_head?.2 (List.ne_nil_of_mem ((hmem v).2 hv)))
    have ht := (hmem t).1 (List.mem_of_head? hhead)
    exact ⟨t, chosenTargets_of_find_none hrotate hfind hhead, ht, .inr
      ⟨fun u hu => hnone u ((hmem u).2 hu), fun u hu =>
        head_le_of_pairwise_lt hsorted hhead ((hmem u).2 hu)⟩⟩

/-- Settles O40: the search order is sorted by the distance from the pointer, so its first target that
qualifies is the nearest one. -/
theorem rotateChoosesNextInTurn : Obligations.RotateChoosesNextInTurn := by
  intro s i e hlegal hvalid
  refine ⟨fun hrotate t => ?_, fun hrotate => ?_⟩
  · rw [chosenTargets_eq_members s i hlegal hvalid hrotate, mem_members]
  · obtain ⟨t, hchosen, ht, hnearest⟩ := chosenTargets_rotate s i hlegal hvalid hrotate
    simp only [mem_members, qualifies_iff, not_not] at ht hnearest
    exact ⟨t, hchosen, ht, hnearest⟩

end Sys2Proof.Proofs
end

section
/-! Target frames that are answered with ERR (R102, R105, R106): the frame and its fault in the words of Safety.lean,
and the CLAIM and REFUSE that name no current offer. -/

open Sys2Proof Sys2Proof.Machine

namespace Sys2Proof.Proofs

/-! ## ERR and its fault (R102, R129) -/

theorem errDetail_eq (reason : ErrReason) (value : Byte) :
    reason.detail value = BitVec.ofNat 16 (reason.code.toNat * 256 + value.toNat) := by
  have hvalue : value.toNat < 2 ^ 8 := value.isLt
  have hcode : reason.code.toNat < 2 ^ 8 := reason.code.isLt
  refine BitVec.eq_of_toNat_eq ?_
  rw [ErrReason.detail, BitVec.toNat_append, ← Nat.shiftLeft_add_eq_or_of_lt hvalue, Nat.shiftLeft_eq,
    BitVec.toNat_ofNat]
  omega

theorem linkFault_protocol_eq (t : TargetNo) (index : Option Index) (reason : ErrReason) (value : Byte) :
    linkFault .protocol (targetLink t) index (reason.detail value) =
      protocolFault t index reason.code value := by
  rw [errDetail_eq, linkFault, linkTarget_targetLink]
  rfl

/-- While the target's link is UP the ERR waits at the tail of its transmit list. -/
theorem sendErr_up {s : State} {t : TargetNo} (hup : s.isUp (targetLink t) = true) (reason : ErrReason)
    (value : Byte) (index : Option Index) :
    s.sendErr t reason value index =
      (s.queued (targetLink t) (.err reason value)).report (protocolFault t index reason.code value)
        false := by
  rw [State.sendErr, State.post_up _ hup, linkFault_protocol_eq]

/-! ## CLAIM and REFUSE of no current offer (R105, R106) -/

/-- The tag names no current offer of the target: it is not the tag of the offer, or no offer is current. -/
def TagNamesNoOffer (s : State) (t : TargetNo) (tag : Byte) : Prop :=
  ∀ o r m, s.currentOffer t = some (o, r, m) → tag ≠ o.tag

theorem tagNamesNoOffer_of_ne {s : State} {t : TargetNo} {tag : Byte} {o : Offer} {r : Record}
    {m : OfferMark} (hoffer : s.currentOffer t = some (o, r, m)) (hne : tag ≠ o.tag) :
    TagNamesNoOffer s t tag := by
  intro o' r' m' hoffer'
  cases hoffer.symm.trans hoffer'
  exact hne

theorem tagNamesNoOffer_of_not_offered {s : State} {t : TargetNo} {tag : Byte}
    (hstate : s.targets[t].state ≠ .offered) : TagNamesNoOffer s t tag := by
  intro o r m hoffer
  rw [State.currentOffer_none hstate] at hoffer
  cases hoffer

theorem takeClaim_eq_refuseTag {s : State} {t : TargetNo} {tag : Byte} (h : TagNamesNoOffer s t tag) :
    s.takeClaim t tag = s.refuseTag t tag := by
  unfold State.takeClaim
  split
  · next o r m hoffer => exact if_neg (h o r m hoffer)
  · rfl

theorem takeRefuse_eq_refuseTag {s : State} {t : TargetNo} {tag : Byte} (h : TagNamesNoOffer s t tag) :
    s.takeRefuse t tag = s.refuseTag t tag := by
  unfold State.takeRefuse
  split
  · next o r m hoffer => exact if_neg (h o r m hoffer)
  · rfl

theorem exec_claimFrame_taken {s : State} {t : TargetNo} {tag : Byte}
    (hframe : s.targetFrame t = some (.claim tag)) :
    exec (.claimFrame t) s = .next ((s.takeClaim t tag).finishTargetFrame t) := by
  change execClaimFrame t s = _
  rw [execClaimFrame, hframe]

theorem exec_refuseFrame_taken {s : State} {t : TargetNo} {tag : Byte}
    (hframe : s.targetFrame t = some (.refuse tag)) :
    exec (.refuseFrame t) s = .next ((s.takeRefuse t tag).finishTargetFrame t) := by
  change execRefuseFrame t s = _
  rw [execRefuseFrame, hframe]

/-- The command takes a frame in progress of the target that names the tag to claim or to refuse its offer. -/
def TakesClaimOrRefuse (s : State) (t : TargetNo) (tag : Byte) (c : Instr) : Prop :=
  c = .claimFrame t ∧ s.targetFrame t = some (.claim tag) ∨
    c = .refuseFrame t ∧ s.targetFrame t = some (.refuse tag)

theorem isUp_of_takesClaimOrRefuse {s : State} {t : TargetNo} {tag : Byte} {c : Instr}
    (htakes : TakesClaimOrRefuse s t tag c) : s.isUp (targetLink t) = true := by
  rcases htakes with ⟨-, hframe⟩ | ⟨-, hframe⟩
  all_goals
    obtain ⟨-, hup, -⟩ := State.targetFrame_some hframe
    exact hup

theorem exec_eq_refuseTag {s : State} {t : TargetNo} {tag : Byte} {c : Instr}
    (htakes : TakesClaimOrRefuse s t tag c) (hno : TagNamesNoOffer s t tag) :
    exec c s = .next ((s.refuseTag t tag).finishTargetFrame t) := by
  rcases htakes with ⟨rfl, hframe⟩ | ⟨rfl, hframe⟩
  · rw [exec_claimFrame_taken hframe, takeClaim_eq_refuseTag hno]
  · rw [exec_refuseFrame_taken hframe, takeRefuse_eq_refuseTag hno]

theorem refuseTag_offered {s : State} {t : TargetNo} {o : Offer} {r : Record} {m : OfferMark}
    (hoffer : s.currentOffer t = some (o, r, m)) (tag : Byte) :
    s.refuseTag t tag = s.sendErr t .badTag tag (some r.index) := by
  rw [State.refuseTag, hoffer]

theorem refuseTag_not_offered {s : State} {t : TargetNo} (hstate : s.targets[t].state ≠ .offered)
    (tag : Byte) : s.refuseTag t tag = s.sendErr t .noOffer tag none := by
  rw [State.refuseTag, State.currentOffer_none hstate]

/-- Settles O44: a tag that names no current offer makes CLAIM and REFUSE alike send the ERR of the target's
state. -/
theorem wrongTagsAreRefused : Obligations.WrongTagsAreRefused := by
  intro s t tag c htakes
  have hup := isUp_of_takesClaimOrRefuse htakes
  refine ⟨fun o r m hoffer hne => ?offered, fun hstate => ?other⟩
  case offered =>
    rw [exec_eq_refuseTag htakes (tagNamesNoOffer_of_ne hoffer hne), refuseTag_offered hoffer,
      sendErr_up hup]
    rfl
  case other =>
    rw [exec_eq_refuseTag htakes (tagNamesNoOffer_of_not_offered hstate), refuseTag_not_offered hstate,
      sendErr_up hup]
    rfl

end Sys2Proof.Proofs
end

section
/-! The admission of requests (R167): the room of the queue in the words of its limits, and the outcome of
REQUEST_ADMISSION with room and without. -/

open Sys2Proof Sys2Proof.Machine

namespace Sys2Proof.Proofs

/-! ## Waiting frames (R150) -/

/-- A consumer is passed frames of a link in UP alone. -/
theorem isUp_of_waiting {s : State} {l : LinkNo} {p : InFrame → Bool} {f : InFrame}
    (h : s.waiting l p = some f) : s.isUp l = true := by
  unfold State.waiting at h
  split at h
  · next hup => exact (Bool.and_eq_true_iff.1 hup).1
  · cases h

/-! ## The room of the queue (R167) -/

theorem admits_iff (s : State) (l : LinkNo) :
    s.admits l = true ↔ s.queue.length < 8 ∧ (s.queue.filter fun r => r.link = l).length < 2 := by
  rw [State.admits, Bool.and_eq_true, decide_eq_true_iff, decide_eq_true_iff]
  rfl

theorem not_admits_iff (s : State) (l : LinkNo) :
    ¬ s.admits l = true ↔ 8 ≤ s.queue.length ∨ 2 ≤ (s.queue.filter fun r => r.link = l).length := by
  rw [admits_iff, not_and_or, not_lt, not_lt]

/-! ## The outcome of REQUEST_ADMISSION (R151, R167) -/

theorem exec_requestAdmission_admitted {s : State} {l : LinkNo} {sequence operation : Byte}
    {operands : List Byte}
    (hframe : s.waiting l InFrame.isRequest = some (.request sequence operation operands))
    (hroom : s.admits l = true) :
    exec (.requestAdmission l) s =
      .next (({ s with
        queue := s.queue ++
          [{ link := l, session := s.links[l].session, sequence := sequence, operation := operation,
             operands := operands }] } : State).finishFrame l InFrame.isRequest) := by
  change execRequestAdmission l s = _
  simp only [execRequestAdmission, hframe, if_pos hroom]

theorem exec_requestAdmission_full {s : State} {l : LinkNo} {sequence operation : Byte}
    {operands : List Byte}
    (hframe : s.waiting l InFrame.isRequest = some (.request sequence operation operands))
    (hfull : ¬ s.admits l = true) :
    exec (.requestAdmission l) s =
      .next ((s.queued l (.response sequence .full [])).finishFrame l InFrame.isRequest) := by
  change execRequestAdmission l s = _
  simp only [execRequestAdmission, hframe, if_neg hfull, State.post_up _ (isUp_of_waiting hframe)]

/-- A frame that joins the transmit list of a link does so ahead of the CREDIT of the frame then finished. -/
theorem queued_finishFrame (s : State) (l : LinkNo) (f : OutFrame) (p : InFrame → Bool) :
    (s.queued l f).finishFrame l p =
      s.withLink l
        ({ s.links[l] with
          ingress := s.links[l].ingress.eraseP p
          transmit := s.links[l].transmit ++ [{ frame := f, thenReset := false }] } : Link).finished := by
  rw [State.finishFrame_eq, State.queued, State.withLink_withLink, State.withLink_self]

/-- Settles O48: the two limits are the room that REQUEST_ADMISSION tests, and a REQUEST without room finds its
link in UP, so its FULL is not discarded. -/
theorem requestsAreAdmittedOrFull : Obligations.RequestsAreAdmittedOrFull := by
  intro s l sequence operation operands hframe left
  refine ⟨fun hqueue hlink => ?admitted, fun hlimit => ?full⟩
  case admitted =>
    rw [exec_requestAdmission_admitted hframe ((admits_iff s l).2 ⟨hqueue, hlink⟩), State.finishFrame_eq]
    rfl
  case full =>
    rw [exec_requestAdmission_full hframe ((not_admits_iff s l).2 hlimit), queued_finishFrame]

end Sys2Proof.Proofs
end

section
/-! The image load (R185, R186): the choice of a slot in the words of the guide, and the outcome of IMAGE_LOAD with
an image chosen and with none. -/

open Sys2Proof Sys2Proof.Machine

namespace Sys2Proof.Proofs

/-! ## The tests and the choice (R185) -/

/-- What the test of each slot finds: the generation of a valid one. -/
def slotTests (s : State) : Vector (Option Word) 2 :=
  #v[s.slots[0].image.map Prod.fst, s.slots[1].image.map Prod.fst]

@[simp] theorem slotTests_get (s : State) (k : ImageSlot) :
    (slotTests s)[k] = s.slots[k].image.map Prod.fst :=
  match k with
  | 0 => rfl
  | 1 => rfl

/-- A valid slot is chosen when a valid other one is older, or as old and the chosen slot is slot 0. -/
theorem chooseImage_of_newest {slots : ImageSlot → Option (Word × Image)} {k : ImageSlot} {g : Word} {im : Image}
    (hvalid : slots k = some (g, im))
    (hnewest : ∀ (j : ImageSlot) (g' : Word) (im' : Image), j ≠ k → slots j = some (g', im') →
      g' < g ∨ (g' = g ∧ k = 0)) :
    chooseImage (slots 0) (slots 1) = some (k, g, im) := by
  match k with
  | 0 =>
    cases hother : slots 1 with
    | none => simp only [chooseImage, hvalid]
    | some o =>
      have hle : ¬ g < o.1 := by
        rcases hnewest 1 o.1 o.2 (by decide) hother with hlt | ⟨heq, -⟩
        · exact BitVec.not_lt.2 (BitVec.le_of_lt hlt)
        · exact heq ▸ BitVec.lt_irrefl o.1
      simp only [chooseImage, hvalid, if_neg hle]
  | 1 =>
    cases hother : slots 0 with
    | none => simp only [chooseImage, hvalid]
    | some o =>
      have hlt : o.1 < g := (hnewest 0 o.1 o.2 (by decide) hother).resolve_right fun h => absurd h.2 (by decide)
      simp only [chooseImage, hvalid, if_pos hlt]

/-! ## The outcome of IMAGE_LOAD (R186, R187) -/

/-- The image gives each link its record, and the link calls its peer (R143, R161, R162). -/
theorem loadImage_link (s : State) (im : Image) (l : LinkNo) :
    (s.loadImage im).links[l] = { s.links[l].calling l with record := im.records[l] } := by
  simp only [State.loadImage, Link.enterTraining_eq, Fin.getElem_fin, Vector.getElem_ofFn, Link.calling]

theorem exec_imageLoad_chosen {s : State} {k : ImageSlot} {g : Word} {im : Image} (hload : s.loading = true)
    (hchosen : chooseImage s.slots[0].image s.slots[1].image = some (k, g, im)) :
    exec .imageLoad s =
      .next { ({ s with summary := slotTests s } : State).loadImage im with
        loaded := some { slot := k, generation := g } } := by
  change execImageLoad s = _
  simp only [execImageLoad, if_pos hload, hchosen]
  rfl

theorem exec_imageLoad_none {s : State} (hload : s.loading = true)
    (hchosen : chooseImage s.slots[0].image s.slots[1].image = none) :
    exec .imageLoad s =
      .next (({ ({ s with summary := slotTests s } : State).loadImage Image.start with
        loaded := none } : State).report noImageFault false) := by
  change execImageLoad s = _
  simp only [execImageLoad, if_pos hload, hchosen]
  rfl

/-- Settles O8: the newest valid slot is the one `chooseImage` returns, and with no valid slot it returns none. -/
theorem loadChoosesNewestImage : Obligations.LoadChoosesNewestImage := by
  refine ⟨fun s k g im hload hvalid hnewest => ?chosen, fun s hload hinvalid => ?none⟩
  case chosen =>
    have hchosen : chooseImage s.slots[0].image s.slots[1].image = some (k, g, im) :=
      chooseImage_of_newest (slots := fun j => s.slots[j].image) hvalid hnewest
    exact ⟨_, exec_imageLoad_chosen hload hchosen, slotTests_get s,
      loadImage_link { s with summary := slotTests s } im, rfl⟩
  case none =>
    have hchosen : chooseImage s.slots[0].image s.slots[1].image = none := by
      rw [show s.slots[0].image = none from hinvalid 0, show s.slots[1].image = none from hinvalid 1]
      rfl
    refine ⟨_, exec_imageLoad_none hload hchosen, State.report_loaded .., State.report_slots .., fun k => ?_⟩
    rw [State.report_summary]
    exact (slotTests_get s k).trans (by rw [hinvalid k]; rfl)

end Sys2Proof.Proofs
end

section
/-! The codes of vector entries, windows and link records (11.4): a code is read exactly when each of its fields is,
and the fields stand at their places. -/

open Sys2Proof Sys2Proof.Machine

namespace Sys2Proof.Proofs

/-! ## Bytes -/

@[simp] theorem bytesOf_length {w : Nat} (n : Nat) (x : BitVec w) : (bytesOf n x).length = n := by
  simp [bytesOf]

/-! ## Vector entries -/

theorem Mode.ofCode_iff (c : BitVec 2) (m : Mode) : Mode.ofCode c = some m ↔ c = m.code := by
  revert c
  cases m <;> decide

theorem Distribution.ofCode_iff (c : BitVec 2) (d : Distribution) : Distribution.ofCode c = some d ↔ c = d.code := by
  revert c
  cases d <;> decide

/-- A code is read as the entry whose fields it holds, when that entry is legal (R3). -/
theorem Entry.ofCode_iff (w : Word) (e : Entry) :
    Entry.ofCode w = some e ↔ e.legal = true ∧ w.extractLsb' 24 8 = e.vector ∧ w.getLsbD 23 = e.valid ∧
      (w.extractLsb' 16 4).toNat = e.level.val ∧ (w.extractLsb' 12 4).toNat = e.queueLimit.val ∧
      w.extractLsb' 10 2 = e.mode.code ∧ w.extractLsb' 8 2 = e.distribution.code ∧
      w.extractLsb' 0 4 = e.targets := by
  unfold Entry.ofCode
  constructor
  · intro h
    split at h
    · split at h
      · split at h
        · next mode distribution hmode hdistribution =>
          dsimp only at h
          split at h
          · next hlegal =>
            cases h
            exact ⟨hlegal, rfl, rfl, rfl, rfl, (Mode.ofCode_iff _ _).1 hmode,
              (Distribution.ofCode_iff _ _).1 hdistribution, rfl⟩
          · cases h
        · cases h
      · cases h
    · cases h
  · rintro ⟨hlegal, hvector, hvalid, hlevel, hlimit, hmode, hdistribution, htargets⟩
    rw [dif_pos (by rw [hlevel]; exact e.level.isLt), dif_pos (by rw [hlimit]; exact e.queueLimit.isLt),
      (Mode.ofCode_iff _ _).2 hmode, (Distribution.ofCode_iff _ _).2 hdistribution]
    simp only [hvector, hvalid, hlevel, hlimit, htargets, Fin.eta, if_pos hlegal]

/-- The fields of a code stand at their places (11.4). -/
theorem entryCode_fields (vector : Byte) (valid : BitVec 1) (level limit : BitVec 4) (mode distribution : BitVec 2)
    (targets : BitVec 4) :
    let w := vector ++ valid ++ (0#3) ++ level ++ limit ++ mode ++ distribution ++ (0#4) ++ targets
    w.extractLsb' 24 8 = vector ∧ w.getLsbD 23 = valid.getLsbD 0 ∧ w.extractLsb' 16 4 = level ∧
      w.extractLsb' 12 4 = limit ∧ w.extractLsb' 10 2 = mode ∧ w.extractLsb' 8 2 = distribution ∧
      w.extractLsb' 0 4 = targets := by
  intro w
  refine ⟨?_, ?_, ?_, ?_, ?_, ?_, ?_⟩ <;>
    simp +decide only [w, BitVec.extractLsb'_append_eq_of_le, BitVec.extractLsb'_append_eq_of_add_le,
      BitVec.getLsbD_append, BitVec.extractLsb'_eq_self, Nat.reduceSub, Nat.sub_self, ite_true, ite_false]

theorem Entry.ofCode_code {e : Entry} (h : e.legal = true) : Entry.ofCode e.code = some e := by
  obtain ⟨hvector, hvalid, hlevel, hlimit, hmode, hdistribution, htargets⟩ :=
    entryCode_fields e.vector (BitVec.ofBool e.valid) (BitVec.ofNat 4 e.level) (BitVec.ofNat 4 e.queueLimit)
      e.mode.code e.distribution.code e.targets
  refine (Entry.ofCode_iff _ _).2 ⟨h, hvector, hvalid.trans (by simp), (congrArg BitVec.toNat hlevel).trans ?_,
    (congrArg BitVec.toNat hlimit).trans ?_, hmode, hdistribution, htargets⟩
  · exact BitVec.toNat_ofNat .. |>.trans (Nat.mod_eq_of_lt (by have := e.level.isLt; omega))
  · exact BitVec.toNat_ofNat .. |>.trans (Nat.mod_eq_of_lt (by have := e.queueLimit.isLt; omega))

/-- The bits without a field are 0 (11.4). -/
theorem entryCode_of_fields (w : Word) :
    w.extractLsb' 24 8 ++ w.extractLsb' 23 1 ++ (0#3) ++ w.extractLsb' 16 4 ++ w.extractLsb' 12 4 ++
      w.extractLsb' 10 2 ++ w.extractLsb' 8 2 ++ (0#4) ++ w.extractLsb' 0 4 = w &&& 0xFF8FFF0F#32 := by
  apply BitVec.eq_of_getLsbD_eq
  intro i hi
  simp only [BitVec.getLsbD_append, BitVec.getLsbD_extractLsb', BitVec.getLsbD_and, BitVec.getLsbD_zero]
  interval_cases i <;> simp

theorem ofBool_getLsbD {n : Nat} (w : BitVec n) (i : Nat) : BitVec.ofBool (w.getLsbD i) = w.extractLsb' i 1 := by
  apply BitVec.eq_of_getLsbD_eq
  intro j hj
  obtain rfl : j = 0 := by omega
  simp

theorem Entry.code_of_ofCode {w : Word} {e : Entry} (h : Entry.ofCode w = some e) :
    e.legal = true ∧ e.code = w &&& 0xFF8FFF0F := by
  obtain ⟨hlegal, hvector, hvalid, hlevel, hlimit, hmode, hdistribution, htargets⟩ := (Entry.ofCode_iff w e).1 h
  refine ⟨hlegal, ?_⟩
  unfold Entry.code
  rw [← hvector, ← hvalid, ← hlevel, ← hlimit, ← hmode, ← hdistribution, ← htargets, BitVec.ofNat_toNat,
    BitVec.ofNat_toNat, BitVec.setWidth_eq, BitVec.setWidth_eq, ofBool_getLsbD]
  exact entryCode_of_fields w

/-! ## Windows -/

theorem Window.ofCode_iff (c : Half) (x : Window) :
    Window.ofCode c = some x ↔ x.legal = true ∧ c.extractLsb' 7 9 = BitVec.ofNat 9 x.base ∧
      (c.extractLsb' 0 7).toNat = x.size.val := by
  unfold Window.ofCode
  constructor
  · intro h
    split at h
    · dsimp only at h
      split at h
      · next hlegal =>
        cases h
        exact ⟨hlegal, (BitVec.ofNat_toNat 9 _ |>.trans (BitVec.setWidth_eq _)).symm, rfl⟩
      · cases h
    · cases h
  · rintro ⟨hlegal, hbase, hsize⟩
    rw [dif_pos (by rw [hsize]; exact x.size.isLt)]
    simp only [hbase, hsize, Fin.eta, BitVec.toFin_ofNat, Fin.ofNat_eq_cast, Fin.cast_val_eq_self,
      if_pos hlegal]

theorem windowCode_fields (base : BitVec 9) (size : BitVec 7) :
    (base ++ size).extractLsb' 7 9 = base ∧ (base ++ size).extractLsb' 0 7 = size :=
  ⟨BitVec.extractLsb'_append_eq_left, BitVec.extractLsb'_append_eq_right⟩

theorem Window.ofCode_code {x : Window} (h : x.legal = true) : Window.ofCode x.code = some x := by
  obtain ⟨hbase, hsize⟩ := windowCode_fields (BitVec.ofNat 9 x.base) (BitVec.ofNat 7 x.size)
  exact (Window.ofCode_iff _ _).2 ⟨h, hbase, (congrArg BitVec.toNat hsize).trans
    (BitVec.toNat_ofNat .. |>.trans (Nat.mod_eq_of_lt (by have := x.size.isLt; omega)))⟩

theorem append_extractLsb' (c : Half) : c.extractLsb' 7 9 ++ c.extractLsb' 0 7 = c :=
  (BitVec.extractLsb'_append_extractLsb'_eq_extractLsb' rfl).trans BitVec.extractLsb'_eq_self

theorem Window.code_of_ofCode {c : Half} {x : Window} (h : Window.ofCode c = some x) :
    x.legal = true ∧ x.code = c := by
  obtain ⟨hlegal, hbase, hsize⟩ := (Window.ofCode_iff c x).1 h
  refine ⟨hlegal, ?_⟩
  unfold Window.code
  rw [← hbase, ← hsize, BitVec.ofNat_toNat, BitVec.setWidth_eq]
  exact append_extractLsb' c

/-! ## Link records -/

theorem readYesNo_iff (b : Byte) (x : Bool) : readYesNo b = some x ↔ b = yesNoCode x := by
  unfold readYesNo yesNoCode
  by_cases hyes : b = 0x01
  · subst hyes
    cases x <;> decide
  · rw [if_neg hyes]
    cases x
    · simp
    · simpa using hyes

theorem LinkRecord.ofCode_iff (c : BitVec 24) (r : LinkRecord) :
    LinkRecord.ofCode c = some r ↔ r.legal = true ∧ Rights.ofCode (c.extractLsb' 16 8) = r.rights ∧
      (c.extractLsb' 8 8).toNat = r.errorLimit.val ∧ c.extractLsb' 0 8 = yesNoCode r.autoRetrain := by
  unfold LinkRecord.ofCode
  constructor
  · intro h
    split at h
    · split at h
      · next auto hauto =>
        dsimp only at h
        split at h
        · next hlegal =>
          cases h
          exact ⟨hlegal, rfl, rfl, (readYesNo_iff _ _).1 hauto⟩
        · cases h
      · cases h
    · cases h
  · rintro ⟨hlegal, hrights, hlimit, hauto⟩
    rw [dif_pos (by rw [hlimit]; exact r.errorLimit.isLt), (readYesNo_iff _ _).2 hauto]
    simp only [hrights, hlimit, Fin.eta, if_pos hlegal]

theorem threeBytes_fields (a b c : Byte) :
    (a ++ b ++ c).extractLsb' 16 8 = a ∧ (a ++ b ++ c).extractLsb' 8 8 = b ∧ (a ++ b ++ c).extractLsb' 0 8 = c := by
  refine ⟨?_, ?_, ?_⟩ <;>
    simp +decide only [BitVec.extractLsb'_append_eq_of_le, BitVec.extractLsb'_append_eq_of_add_le,
      BitVec.extractLsb'_eq_self, Nat.reduceSub, Nat.sub_self]

theorem append_threeBytes (c : BitVec 24) : c.extractLsb' 16 8 ++ c.extractLsb' 8 8 ++ c.extractLsb' 0 8 = c := by
  rw [BitVec.extractLsb'_append_extractLsb'_eq_extractLsb' (by rfl : 16 = 8 + 8)]
  exact (BitVec.extractLsb'_append_extractLsb'_eq_extractLsb' rfl).trans BitVec.extractLsb'_eq_self

theorem Rights.ofCode_code (r : Rights) : Rights.ofCode r.code = r := by
  obtain ⟨read, write, commit, control⟩ := r
  revert read write commit control
  decide

theorem Rights.code_ofCode (b : Byte) : (Rights.ofCode b).code = b &&& 0x0F := by
  apply BitVec.eq_of_getLsbD_eq
  intro i hi
  simp only [Rights.code, Rights.ofCode, BitVec.getLsbD_append, BitVec.getLsbD_and, BitVec.getLsbD_ofBool,
    BitVec.getLsbD_zero]
  interval_cases i <;> simp

theorem LinkRecord.ofCode_code {r : LinkRecord} (h : r.legal = true) : LinkRecord.ofCode r.code = some r := by
  obtain ⟨hrights, hlimit, hauto⟩ :=
    threeBytes_fields r.rights.code (BitVec.ofNat 8 r.errorLimit) (yesNoCode r.autoRetrain)
  exact (LinkRecord.ofCode_iff _ _).2 ⟨h, (congrArg Rights.ofCode hrights).trans (Rights.ofCode_code _),
    (congrArg BitVec.toNat hlimit).trans (BitVec.toNat_ofNat .. |>.trans
      (Nat.mod_eq_of_lt (by have := r.errorLimit.isLt; omega))), hauto⟩

theorem and_threeBytes (a b c : Byte) : (a ++ b ++ c) &&& 0x0FFFFF#24 = (a &&& 0x0F) ++ b ++ c := by
  apply BitVec.eq_of_getLsbD_eq
  intro i hi
  simp only [BitVec.getLsbD_append, BitVec.getLsbD_and]
  interval_cases i <;> simp

theorem LinkRecord.code_of_ofCode {c : BitVec 24} {r : LinkRecord} (h : LinkRecord.ofCode c = some r) :
    r.legal = true ∧ r.code = c &&& 0x0FFFFF := by
  obtain ⟨hlegal, hrights, hlimit, hauto⟩ := (LinkRecord.ofCode_iff c r).1 h
  refine ⟨hlegal, ?_⟩
  unfold LinkRecord.code
  rw [← hrights, ← hlimit, ← hauto, BitVec.ofNat_toNat, BitVec.setWidth_eq, Rights.code_ofCode]
  conv_rhs => rw [← append_threeBytes c]
  exact (and_threeBytes _ _ _).symm

theorem TimerRecord.ofCode_iff (c : BitVec 24) (r : TimerRecord) :
    TimerRecord.ofCode c = some r ↔ r.legal = true ∧ c.extractLsb' 16 8 = r.claimTimeout ∧
      (c.extractLsb' 8 8).toNat = r.retries.val ∧ c.extractLsb' 0 8 = r.holdTime := by
  unfold TimerRecord.ofCode
  constructor
  · intro h
    split at h
    · dsimp only at h
      split at h
      · next hlegal =>
        cases h
        exact ⟨hlegal, rfl, rfl, rfl⟩
      · cases h
    · cases h
  · rintro ⟨hlegal, htimeout, hretries, hhold⟩
    rw [dif_pos (by rw [hretries]; exact r.retries.isLt)]
    simp only [htimeout, hretries, hhold, Fin.eta, if_pos hlegal]

theorem TimerRecord.ofCode_code {r : TimerRecord} (h : r.legal = true) : TimerRecord.ofCode r.code = some r := by
  obtain ⟨htimeout, hretries, hhold⟩ := threeBytes_fields r.claimTimeout (BitVec.ofNat 8 r.retries) r.holdTime
  exact (TimerRecord.ofCode_iff _ _).2 ⟨h, htimeout, (congrArg BitVec.toNat hretries).trans
    (BitVec.toNat_ofNat .. |>.trans (Nat.mod_eq_of_lt (by have := r.retries.isLt; omega))), hhold⟩

theorem TimerRecord.code_of_ofCode {c : BitVec 24} {r : TimerRecord} (h : TimerRecord.ofCode c = some r) :
    r.legal = true ∧ r.code = c := by
  obtain ⟨hlegal, htimeout, hretries, hhold⟩ := (TimerRecord.ofCode_iff c r).1 h
  refine ⟨hlegal, ?_⟩
  unfold TimerRecord.code
  rw [← htimeout, ← hretries, ← hhold, BitVec.ofNat_toNat, BitVec.setWidth_eq]
  exact append_threeBytes c

/-- Settles O3: each code is read exactly when its fields are in range and legal, and its fields are those of the
record. -/
theorem tableCodesRoundTrip : Obligations.TableCodesRoundTrip :=
  ⟨fun _ => Entry.ofCode_code, fun _ _ => Entry.code_of_ofCode, fun _ => Window.ofCode_code,
    fun _ _ => Window.code_of_ofCode, fun _ => LinkRecord.ofCode_code, fun _ _ => LinkRecord.code_of_ofCode,
    fun _ => TimerRecord.ofCode_code, fun _ _ => TimerRecord.code_of_ofCode⟩

end Sys2Proof.Proofs
end

section
/-! The image slot (11.6): the contents written from a legal image read back as that image. -/

open Sys2Proof Sys2Proof.Machine

namespace Sys2Proof.Proofs

/-! ## The mask map -/

/-- The bits of a byte made of eight bits. -/
theorem byteOfBits_getLsbD (f : Fin 8 → Bool) (j : Fin 8) :
    (byteOfBits ((List.finRange 8).map f)).getLsbD (7 - j.val) = f j := by
  have hlist : (List.finRange 8).map f = [f 0, f 1, f 2, f 3, f 4, f 5, f 6, f 7] := rfl
  have hrange : List.range 8 = [0, 1, 2, 3, 4, 5, 6, 7] := rfl
  simp only [byteOfBits, hlist, hrange, List.foldl_cons, List.foldl_nil]
  fin_cases j <;> simp

theorem maskOfBytes_maskBytes (m : Vector Bool 512) : maskOfBytes (maskBytes m) = m := by
  apply Vector.ext
  intro i hi
  have hbits := byteOfBits_getLsbD (fun j : Fin 8 => m[8 * (i / 8) + j.val]'(by omega)) ⟨i % 8, by omega⟩
  simp only [maskOfBytes, maskBytes, Vector.getElem_ofFn]
  refine hbits.trans ?_
  simp only [Nat.div_add_mod]

/-! ## Reading all the values of a field -/

theorem readAll_some_get {α β : Type} {n : Nat} {f : α → Option β} {v : Vector α n} {w : Vector β n}
    (h : readAll f v = some w) (i : Fin n) : f v[i] = some w[i] := by
  unfold readAll at h
  split at h
  · next hs =>
    cases h
    simp
  · cases h

/-! ## Images -/

theorem targetRecord_halves (a b : BitVec 24) :
    (a ++ b).extractLsb' 24 24 = a ∧ (a ++ b).extractLsb' 0 24 = b :=
  ⟨BitVec.extractLsb'_append_eq_left, BitVec.extractLsb'_append_eq_right⟩

theorem contents_targetRecord (g : Word) (im : Image) (t : TargetNo) :
    (im.contents g).targetRecords[t] = im.records[12 + t.val].code ++ im.timers[t].code := by
  simp [Image.contents, Image.targetRecord]

/-- The contents written from a legal image read back as that image (R184). -/
theorem readImage_contents (g : Word) {im : Image} (h : ImageLegal im) : readImage (im.contents g) = some im := by
  obtain ⟨⟨hentries, hwindows⟩, hrecords, htimers⟩ := h
  refine readImage_eq_some (sources := Vector.ofFn fun l : Fin 12 => im.records[l.val])
    (targets := Vector.ofFn fun t : Fin 4 => im.records[12 + t.val]) (readAll_eq_some fun i => ?_)
    (readAll_eq_some fun n => ?_) (readAll_eq_some fun l => ?_) (readAll_eq_some fun t => ?_)
    (readAll_eq_some fun t => ?_) (maskOfBytes_maskBytes _) ?_
  · simpa [Image.contents] using Entry.ofCode_code (hentries i)
  · simpa [Image.contents] using Window.ofCode_code (hwindows n)
  · simpa [Image.contents] using LinkRecord.ofCode_code (hrecords ⟨l.val, by omega⟩)
  · have hread := LinkRecord.ofCode_code (hrecords ⟨12 + t.val, by omega⟩)
    rw [contents_targetRecord, (targetRecord_halves _ _).1]
    simpa using hread
  · rw [contents_targetRecord, (targetRecord_halves _ _).2]
    exact TimerRecord.ofCode_code (htimers t)
  · apply Vector.ext
    intro i hi
    rw [Vector.getElem_append]
    split
    · simp
    · next hlt =>
      simp only [Vector.getElem_ofFn]
      congr 1
      omega

/-- Only legal images are read (R184). -/
theorem imageLegal_of_readImage {c : SlotContents} {im : Image} (h : readImage c = some im) : ImageLegal im := by
  unfold readImage at h
  split at h
  · next entries windows sources targets timers he hw hs ht hm =>
    cases h
    refine ⟨⟨fun i => ?_, fun n => ?_⟩, fun l => ?_, fun t => ?_⟩
    · exact (Entry.code_of_ofCode (readAll_some_get he i)).1
    · exact (Window.code_of_ofCode (readAll_some_get hw n)).1
    · change ((sources ++ targets)[l.val]'l.isLt).legal = true
      rw [Vector.getElem_append]
      split
      · next hl => exact (LinkRecord.code_of_ofCode (readAll_some_get hs ⟨l.val, hl⟩)).1
      · next hl => exact (LinkRecord.code_of_ofCode (readAll_some_get ht ⟨l.val - 12, by omega⟩)).1
    · exact (TimerRecord.code_of_ofCode (readAll_some_get hm t)).1
  · cases h

/-! ## Slots -/

@[simp] theorem written_contents (c : SlotContents) (check : Option Word) :
    (Slot.written c check).contents = some c := rfl

/-- A slot written from a legal image, with its check value, is valid with its generation (R184). -/
theorem written_image (g : Word) {im : Image} (h : ImageLegal im) :
    (Slot.written (im.contents g) (some (slotCheck (slotBytes (im.contents g))))).image = some (g, im) := by
  unfold Slot.image
  rw [written_contents]
  exact (if_pos rfl).trans (by rw [readImage_contents g h]; rfl)

/-- A slot whose check field is erased is not valid (R184). -/
theorem image_of_check_none {x : Slot} (h : x.check = none) : x.image = none := by
  unfold Slot.image
  rw [h]
  split
  · next hcheck => cases hcheck
  · rfl

theorem flatMap_bytesOf_length {w n : Nat} (k : Nat) (v : Vector (BitVec w) n) :
    (v.toList.flatMap (bytesOf k)).length = n * k := by
  simp [List.length_flatMap]

theorem slotBytes_length (c : SlotContents) : (slotBytes c).length = 2202 := by
  simp only [slotBytes, List.length_append, flatMap_bytesOf_length, bytesOf_length, Vector.length_toList]

/-- Settles O4: each field of a slot reads back, and only what is legal is read. -/
theorem imageCodesRoundTrip : Obligations.ImageCodesRoundTrip :=
  ⟨fun g _ => readImage_contents g, fun _ _ => imageLegal_of_readImage, fun g _ => written_image g,
    fun _ => image_of_check_none rfl, slotBytes_length⟩

end Sys2Proof.Proofs
end

section
/-! The envelope (11.1): the bytes of a frame read back as that frame, with what follows it left over. -/

open Sys2Proof Sys2Proof.Machine

namespace Sys2Proof.Proofs

theorem bytesOf_two (c : Half) : bytesOf 2 c = [c.extractLsb' 8 8, c.extractLsb' 0 8] := rfl

theorem half_of_bytes (c : Half) : c.extractLsb' 8 8 ++ c.extractLsb' 0 8 = c :=
  (BitVec.extractLsb'_append_extractLsb'_eq_extractLsb' rfl).trans BitVec.extractLsb'_eq_self

theorem length_byte {n : Nat} (h : n ≤ 255) : (BitVec.ofNat 8 n).toNat = n :=
  BitVec.toNat_ofNat .. |>.trans (Nat.mod_eq_of_lt (by omega))

/-- A frame of at most 255 body bytes is taken back whole, whatever follows it (R196). -/
theorem Wire.ofBytes_bytes {w : Wire} (h : w.body.length ≤ 255) (rest : List Byte) :
    Wire.ofBytes (w.bytes ++ rest) = some w := by
  have hdrop : ((w.body ++ bytesOf 2 w.check) ++ rest).drop (BitVec.ofNat 8 w.body.length).toNat =
      w.check.extractLsb' 8 8 :: w.check.extractLsb' 0 8 :: rest := by
    rw [length_byte h, List.append_assoc, List.drop_left]
    rfl
  have htake : ((w.body ++ bytesOf 2 w.check) ++ rest).take (BitVec.ofNat 8 w.body.length).toNat = w.body := by
    rw [length_byte h, List.append_assoc, List.take_left]
  unfold Wire.bytes Wire.ofBytes
  simp only [List.cons_append, hdrop, htake, half_of_bytes]

theorem Wire.drop_bytes (w : Wire) (rest : List Byte) : (w.bytes ++ rest).drop (w.body.length + 4) = rest := by
  rw [List.drop_append_of_le_length (by simp [Wire.bytes]), List.drop_of_length_le (by simp [Wire.bytes]),
    List.nil_append]

theorem wire_passes (f : OutFrame) (grant : Byte) : (f.wire grant).passes = true := by
  unfold Wire.passes OutFrame.wire
  dsimp only
  rw [beq_self_eq_true]

theorem wire_bytes (f : OutFrame) (grant : Byte) :
    (f.wire grant).bytes = frameBytes f.kind.code (f.body grant) := by
  unfold Wire.bytes OutFrame.wire frameBytes
  simp only [List.cons_append]

/-- Settles O5: length byte and check bytes give the body back, and the check is computed over the same bytes. -/
theorem sentFramesReadBack : Obligations.SentFramesReadBack :=
  fun f grant rest h =>
    ⟨Wire.ofBytes_bytes h rest, wire_passes f grant, wire_bytes f grant, Wire.drop_bytes (f.wire grant) rest⟩

end Sys2Proof.Proofs
end

section
/-! Equations of the delivery operations (chapters 2, 5 and 6): the accepted claim, the withdrawal and the session end
of a target, each as one change of the pool and of the target's block. -/

open Sys2Proof Sys2Proof.Machine

namespace Sys2Proof.Proofs

/-! ## The current offer (R95) -/

theorem not_offline_of_currentOffer {s : State} {t : TargetNo} {o : Offer} {r : Record} {m : OfferMark}
    (hoffer : s.currentOffer t = some (o, r, m)) : s.targets[t].state ≠ .offline := by
  obtain ⟨hstate, -⟩ := State.currentOffer_some hoffer
  rw [hstate]
  decide

theorem currentOffer_post (s : State) (t : TargetNo) (l : LinkNo) (f : OutFrame) :
    (s.post l f).currentOffer t = s.currentOffer t := by
  simp only [State.currentOffer, State.recordAt, State.post_targets, State.post_records]

/-! ## An accepted claim (R80, R103) -/

/-- The in-service entry that an accepted claim of a record makes (R80). -/
def claimEntry (o : Offer) (r : Record) : InService :=
  { vector := r.vector, level := r.level, index := r.index, origin := r.origin, claimTag := o.tag }

theorem acceptClaim_eq (s : State) (t : TargetNo) (o : Offer) (r : Record) :
    s.acceptClaim t o r =
      ((s.freeRecord r.slot).withTarget t
        (Target.enter .ready { s.targets[t] with stack := claimEntry o r :: s.targets[t].stack })).reexamine
          t := by
  rw [State.acceptClaim, State.enterReady, State.modTarget_eq, State.modTarget_eq, State.withTarget_self,
    State.withTarget_withTarget]
  rfl

/-! ## Withdrawal (R34) -/

/-- A reported placement leaves a target in OFFERED, and every other target than its own, alone. -/
theorem notify_target (s : State) {t : TargetNo} (u : TargetNo) (level : Level)
    (hoffered : s.targets[t].state = .offered) : (s.notify u level).targets[t] = s.targets[t] := by
  by_cases h : t = u
  · subst h
    rw [State.notify_inert] <;> rw [hoffered] <;> decide
  · rcases State.notify_cases s u level with hn | hn | ⟨-, -, hn⟩ <;> rw [hn]
    · rcases State.reexamine_cases s u with hr | ⟨r, -, -, hr⟩ <;> rw [hr]
      rw [State.makeOffer]
      exact (congrArg (·[t]) (State.post_targets ..)).trans (State.withTarget_ne _ _ h)
    · exact (congrArg (·[t]) (State.post_targets ..)).trans (State.withTarget_ne _ _ h)

theorem foldInto_targets (s : State) (r : Record) (n : Nat) (p : List Word) (o : Origin) :
    (s.foldInto r n p o).targets = s.targets := by
  unfold State.foldInto
  dsimp only
  split
  · rfl
  · exact State.report_targets ..

/-- A withdrawal leaves a target in OFFERED alone: no offer is made while one is out. -/
theorem withdraw_target (s : State) {t : TargetNo} (r : Record) (hoffered : s.targets[t].state = .offered) :
    (s.withdraw r).targets[t] = s.targets[t] := by
  unfold State.withdraw
  dsimp only
  split
  · rfl
  · next w _ =>
    have htargets := foldInto_targets ((s.changeRecord r.slot fun x => { x with offer := none }).freeRecord
      w.slot) r (w.count.getD 0) w.payload w.origin
    rw [notify_target _ _ _ (by rw [htargets]; exact hoffered), htargets]
    rfl

/-! ## The end of a target's session (R91, R121) -/

/-- The block of a target whose session has ended: tag counter and wake level are kept (R91, R121). -/
def sessionEnded (g : Target) : Target :=
  { g.resting .offline with stack := [], threshold := 8 }

theorem report_withTarget (s : State) (t : TargetNo) (g : Target) (r : FaultRecord) (marked : Bool) :
    (s.withTarget t g).report r marked = (s.report r marked).withTarget t g := by
  unfold State.report State.recordFault State.raiseEvent
  repeat' split
  all_goals first | rfl | contradiction

/-- The end of an offer at a session end leaves every target's block alone. -/
theorem endOffer_target (s : State) (t : TargetNo) : (s.endOffer t).targets[t] = s.targets[t] := by
  unfold State.endOffer
  split
  · next o r m hoffer =>
    obtain ⟨hstate, -⟩ := State.currentOffer_some hoffer
    split
    · rfl
    · exact withdraw_target s r hstate
  · rfl

/-- The SERVICE_ABANDONED report of a stack that is emptied; none when it is empty (R91). -/
def abandonReport (t : TargetNo) : List InService → Option FaultRecord
  | [] => none
  | top :: rest =>
    some (linkFault .serviceAbandoned (targetLink t) (some top.index) (BitVec.ofNat 16 (rest.length + 1)))

/-- A fault report that may be absent. -/
def reportSome (s : State) : Option FaultRecord → State
  | none => s
  | some r => s.report r false

theorem targetSessionEnd_eq {s : State} {t : TargetNo} (h : s.targets[t].state ≠ .offline) :
    s.targetSessionEnd t =
      reportSome ((s.endOffer t).withTarget t (sessionEnded s.targets[t]))
        (abandonReport t s.targets[t].stack) := by
  unfold State.targetSessionEnd
  rw [if_neg h, State.modTarget_eq]
  have htarget := endOffer_target s t
  unfold State.abandonService
  rw [htarget]
  cases hstack : s.targets[t].stack with
  | nil =>
    dsimp only [reportSome, abandonReport]
    rw [htarget]
    unfold Target.enter sessionEnded Target.resting
    rw [hstack]
  | cons top rest =>
    dsimp only [reportSome, abandonReport]
    rw [State.modTarget_eq, htarget, report_withTarget, report_withTarget, State.withTarget_self,
      State.withTarget_withTarget]
    rfl

/-! ## Session ends and starts (R123, R144, R147) -/

theorem linkTarget_eq_some {l : LinkNo} {t : TargetNo} : linkTarget l = some t ↔ l = targetLink t := by
  revert l t
  decide

theorem ne_targetLink_of_none {l : LinkNo} (h : linkTarget l = none) (t : TargetNo) : l ≠ targetLink t := by
  rintro rfl
  rw [linkTarget_targetLink] at h
  cases h

/-- The link and the queue at a session end, before the target's part. -/
def sessionCleared (s : State) (l : LinkNo) : State :=
  { s.withLink l { s.links[l] with ingress := [], transmit := [], grant := 4 } with
    queue := s.queue.filter fun r => r.link != l }

theorem clearSession_source {s : State} {l : LinkNo} (h : linkTarget l = none) :
    s.clearSession l = sessionCleared s l := by
  rw [State.clearSession, h]
  rfl

theorem clearSession_target (s : State) (t : TargetNo) :
    s.clearSession (targetLink t) = (sessionCleared s (targetLink t)).targetSessionEnd t := by
  rw [State.clearSession, linkTarget_targetLink]
  rfl

theorem targetSessionEnd_offline (s : State) (t : TargetNo) :
    (s.targetSessionEnd t).targets[t].state = .offline := by
  unfold State.targetSessionEnd
  split
  · next h => exact h
  · rw [State.modTarget_eq, State.withTarget_self]
    rfl

theorem clearSession_queue (s : State) (l : LinkNo) :
    (s.clearSession l).queue = s.queue.filter fun r => r.link != l := by
  cases h : linkTarget l with
  | none => rw [clearSession_source h]; rfl
  | some t =>
    obtain rfl := linkTarget_eq_some.1 h
    rw [clearSession_target]
    exact congrArg Prod.fst (State.targetSessionEnd_apart _ t)

theorem sessionEnd_queue (s : State) (l : LinkNo) :
    (s.sessionEnd l).queue = s.queue.filter fun r => r.link != l := by
  cases h : linkTarget l with
  | none => rw [State.sessionEnd_source s h, clearSession_queue]
  | some t =>
    obtain rfl := linkTarget_eq_some.1 h
    rw [State.sessionEnd_target, clearSession_queue]
    exact congrArg (List.filter _) (congrArg Prod.fst (State.takeInProgress_apart s t))

theorem sessionEnd_offline (s : State) (t : TargetNo) :
    (s.sessionEnd (targetLink t)).targets[t].state = .offline := by
  rw [State.sessionEnd_target, clearSession_target, targetSessionEnd_offline]

/-- The answer to a peer's call joins the empty list of a link that is UP. -/
theorem started_answered (s : State) (l : LinkNo) (answer : Bool) :
    (if answer then (s.withLink l (s.links[l].started l false)).post l (.hello (linkRole l) .answer)
      else s.withLink l (s.links[l].started l false)) = s.withLink l (s.links[l].started l answer) := by
  cases answer with
  | false => rfl
  | true =>
    rw [if_pos rfl, State.post_up _ (by simp [State.isUp, Link.started]), State.queued,
      State.withLink_withLink, State.withLink_self]
    rfl

/-- A session start, in the words of Safety.lean (R124, R144). -/
theorem sessionStart_eq (s : State) (l : LinkNo) (answer : Bool) :
    s.sessionStart l answer = s.sessionStarted l answer := by
  have hstart := started_answered s l answer
  unfold State.sessionStart State.sessionStarted
  dsimp only
  rw [← hstart]
  rfl

/-! ## Placement (R25, R27, R30, R31) -/

/-- Outside mode QUEUE an arrival coalesces with the oldest waiting record of its key. -/
theorem coalesceWith_eq_head {s : State} {t : TargetNo} {i : Index} {m : Mode} (hmode : m ≠ .queue) :
    s.coalesceWith t i m = (s.waitingRecords t i m).head? := by
  rw [State.coalesceWith, if_neg hmode, State.waitingRecords, List.head?_filter]

theorem foldInto_records (s : State) (r : Record) (n : Nat) (p : List Word) (o : Origin) :
    (s.foldInto r n p o).records = s.records.map fun x => if x.slot = r.slot then x.fold n p o else x := by
  unfold State.foldInto
  dsimp only
  split
  · rfl
  · exact State.report_records ..

/-- Folding an arrival into a record changes its count, payload and origin alone. -/
theorem fold_fixed (r : Record) (n : Nat) (p : List Word) (o : Origin) :
    (r.fold n p o).slot = r.slot ∧ (r.fold n p o).target = r.target ∧ (r.fold n p o).index = r.index ∧
      (r.fold n p o).level = r.level ∧ (r.fold n p o).mode = r.mode ∧ (r.fold n p o).offer = r.offer := by
  unfold Record.fold
  split <;> exact ⟨rfl, rfl, rfl, rfl, rfl, rfl⟩

/-- A change of some records that keeps the answer of a test keeps how many pass the test. -/
theorem length_filter_map {q : Record → Bool} {f : Record → Record} (h : ∀ x, q (f x) = q x)
    (rs : List Record) : ((rs.map f).filter q).length = (rs.filter q).length := by
  rw [List.filter_map, List.length_map]
  exact congrArg (fun p => (rs.filter p).length) (funext h)

theorem placeFor_queueCount_ne (s : State) (i : Index) (e : Entry) (o : Origin) (p : List Word)
    {t u : TargetNo} (hne : u ≠ t) : (s.placeFor i e o p t).queueCount u i = s.queueCount u i := by
  unfold State.placeFor
  split
  · next r _ =>
    unfold State.queueCount
    rw [foldInto_records]
    refine length_filter_map (fun x => ?_) _
    split
    · obtain ⟨-, ht, hi, -, hm, -⟩ := fold_fixed x 1 p o
      simp only [ht, hi, hm]
    · rfl
  · split
    · have hut : (t == u) = false := beq_false_of_ne hne.symm
      simp [State.queueCount, newRecord, hut]
    · rfl

theorem coalesceWith_none_iff {s : State} {t : TargetNo} {i : Index} {m : Mode} :
    s.coalesceWith t i m = none ↔ (s.waitingRecords t i m).length = 0 ∨ m = .queue := by
  by_cases hmode : m = .queue
  · simp [State.coalesceWith, hmode]
  · rw [coalesceWith_eq_head hmode, List.head?_eq_none_iff, List.length_eq_zero_iff, or_iff_left hmode]

theorem placeFor_coalesceWith_ne (s : State) (i : Index) (e : Entry) (o : Origin) (p : List Word)
    {t u : TargetNo} (hne : u ≠ t) :
    (s.placeFor i e o p t).coalesceWith u i e.mode = none ↔ s.coalesceWith u i e.mode = none := by
  rw [coalesceWith_none_iff, coalesceWith_none_iff]
  unfold State.placeFor
  split
  · next r _ =>
    unfold State.waitingRecords
    rw [foldInto_records, length_filter_map (fun x => ?_)]
    split
    · obtain ⟨-, ht, hi, -, hm, hoffer⟩ := fold_fixed x 1 p o
      simp only [ht, hi, hm, hoffer]
    · rfl
  · split
    · have hut : (t == u) = false := beq_false_of_ne hne.symm
      simp [State.waitingRecords, newRecord, hut]
    · rfl

theorem eraseDups_nodup : ∀ l : List TargetNo, l.eraseDups.Nodup
  | [] => List.nodup_nil
  | t :: ts => by
    rw [List.eraseDups_cons, List.nodup_cons]
    refine ⟨fun h => ?_, eraseDups_nodup _⟩
    simp at h
  termination_by l => l.length
  decreasing_by
    have := List.length_filter_le (fun b => !b == t) ts
    simp only [List.length_cons]
    omega

theorem takenOrder_nodup (order chosen : List TargetNo) : (takenOrder order chosen).Nodup :=
  (eraseDups_nodup _).filter _

/-- The chosen targets are taken, each once. -/
theorem mem_takenOrder {order chosen : List TargetNo} {t : TargetNo} :
    t ∈ takenOrder order chosen ↔ t ∈ chosen := by
  simp only [takenOrder, List.mem_filter, List.mem_eraseDups, List.mem_append, decide_eq_true_eq]
  exact and_iff_right_of_imp .inr

end Sys2Proof.Proofs
end

section
/-! What a target may owe: an offer or a wake for a record of some level (R97, R115, R116). A re-examination, a report of
a placement and the entry into ASLEEP pay it. -/

open Sys2Proof Sys2Proof.Machine

namespace Sys2Proof.Proofs

/-! ## What is not due -/

/-- No record of the target at the level is overdue: it is not eligible in READY, and does not wake in ASLEEP. -/
def NotDue (s : State) (t : TargetNo) (l : Level) : Prop :=
  ∀ r ∈ s.records, r.target = t → r.level = l →
    (s.targets[t].state = .ready → s.targets[t].serviceBound ≤ r.level.val) ∧
      (s.targets[t].state = .asleep → s.targets[t].wakeLevel < r.level)

theorem nothingOverdue_iff (s : State) : NothingOverdue s ↔ ∀ t l, NotDue s t l :=
  ⟨fun h _ _ r hr ht _ => ht ▸ h r hr, fun h r hr => h r.target r.level r hr rfl rfl⟩

/-- The block `g` makes no record due that was not due for the block `old`. -/
def Calm (old g : Target) : Prop :=
  (g.state = .ready → old.state = .ready ∧ g.serviceBound ≤ old.serviceBound) ∧
    (g.state = .asleep → old.state = .asleep ∧ g.wakeLevel ≤ old.wakeLevel)

theorem Calm.refl (g : Target) : Calm g g :=
  ⟨fun h => ⟨h, le_rfl⟩, fun h => ⟨h, le_rfl⟩⟩

/-- Only READY and ASLEEP make a record due. -/
theorem Calm.of_state {old g : Target} (hready : g.state ≠ .ready) (hasleep : g.state ≠ .asleep) : Calm old g :=
  ⟨fun h => absurd h hready, fun h => absurd h hasleep⟩

/-- Every record of the pool of `b` has the target and level of one of `s`. -/
def SameKeys (s b : State) : Prop :=
  ∀ r ∈ b.records, ∃ x ∈ s.records, x.target = r.target ∧ x.level = r.level

theorem SameKeys.refl (s : State) : SameKeys s s :=
  fun r hr => ⟨r, hr, rfl, rfl⟩

theorem SameKeys.of_eq {s b : State} (h : b.records = s.records) : SameKeys s b :=
  fun r hr => ⟨r, h ▸ hr, rfl, rfl⟩

theorem SameKeys.trans {a b c : State} (hab : SameKeys a b) (hbc : SameKeys b c) : SameKeys a c := by
  intro r hr
  obtain ⟨x, hx, ht, hl⟩ := hbc r hr
  obtain ⟨y, hy, ht', hl'⟩ := hab x hx
  exact ⟨y, hy, ht'.trans ht, hl'.trans hl⟩

theorem SameKeys.changeRecord (s : State) (n : SlotNo) {f : Record → Record}
    (h : ∀ x, (f x).target = x.target ∧ (f x).level = x.level) : SameKeys s (s.changeRecord n f) := by
  intro r hr
  obtain ⟨x, hx, rfl⟩ := List.mem_map.1 hr
  refine ⟨x, hx, ?_⟩
  split
  · exact ⟨(h x).1.symm, (h x).2.symm⟩
  · exact ⟨rfl, rfl⟩

theorem SameKeys.freeRecord (s : State) (n : SlotNo) : SameKeys s (s.freeRecord n) :=
  fun r hr => ⟨r, List.mem_of_mem_filter hr, rfl, rfl⟩

/-- No record comes to be due when no key is new and the block is calm. -/
theorem NotDue.of_calm {s b : State} {t : TargetNo} {l : Level} (hrecords : SameKeys s b)
    (hcalm : Calm s.targets[t] b.targets[t]) (hs : NotDue s t l) : NotDue b t l := by
  intro r hr ht hl
  obtain ⟨x, hx, hxt, hxl⟩ := hrecords r hr
  obtain ⟨hready, hasleep⟩ := hs x hx (hxt.trans ht) (hxl.trans hl)
  rw [hxl] at hready hasleep
  refine ⟨fun h => ?_, fun h => ?_⟩
  · obtain ⟨hold, hbound⟩ := hcalm.1 h
    exact hbound.trans (hready hold)
  · obtain ⟨hold, hwake⟩ := hcalm.2 h
    exact hwake.trans_lt (hasleep hold)

theorem NotDue.of_eq {s b : State} {t : TargetNo} {l : Level} (hrecords : b.records = s.records)
    (htargets : b.targets = s.targets) (hs : NotDue s t l) : NotDue b t l :=
  hs.of_calm (.of_eq hrecords) (by rw [htargets]; exact .refl _)

/-- A target in a state other than READY and ASLEEP owes nothing. -/
theorem NotDue.of_state {s : State} {t : TargetNo} (l : Level) (hready : s.targets[t].state ≠ .ready)
    (hasleep : s.targets[t].state ≠ .asleep) : NotDue s t l :=
  fun _ _ _ _ => ⟨fun h => absurd h hready, fun h => absurd h hasleep⟩

/-! ## Changes of one block -/

/-- A block changes, or a target is left alone. -/
theorem calm_withTarget {s : State} {t : TargetNo} {g : Target} (h : Calm s.targets[t] g) (u : TargetNo) :
    Calm s.targets[u] (s.withTarget t g).targets[u] := by
  by_cases hu : u = t
  · subst hu
    rwa [State.withTarget_self]
  · rw [State.withTarget_ne _ _ hu]
    exact .refl _

/-! ## Offers, wakes and reports (R90, R97, R116) -/

theorem makeOffer_state (s : State) (t : TargetNo) (r : Record) : (s.makeOffer t r).targets[t].state = .offered := by
  rw [State.makeOffer, State.post_targets, State.modTarget_eq, State.withTarget_self]

theorem sendWake_state (s : State) (t : TargetNo) (level : Level) :
    (s.sendWake t level).targets[t].state = .waking := by
  rw [State.sendWake, State.post_targets, State.modTarget_eq, State.withTarget_self]

theorem makeOffer_calm (s : State) (t : TargetNo) (r : Record) (u : TargetNo) :
    Calm s.targets[u] (s.makeOffer t r).targets[u] := by
  rw [State.makeOffer, State.post_targets, State.modTarget_eq]
  exact calm_withTarget (s := s.changeRecord r.slot _) (.of_state (by simp) (by simp)) u

theorem makeOffer_sameKeys (s : State) (t : TargetNo) (r : Record) : SameKeys s (s.makeOffer t r) := by
  have hmarked := SameKeys.changeRecord s r.slot
    (f := fun x => { x with offer := some { tag := s.targets[t].tagCounter, void := false } }) fun _ => ⟨rfl, rfl⟩
  refine hmarked.trans (.of_eq ?_)
  rw [State.makeOffer, State.post_records]
  rfl

theorem sendWake_calm (s : State) (t : TargetNo) (level : Level) (u : TargetNo) :
    Calm s.targets[u] (s.sendWake t level).targets[u] := by
  rw [State.sendWake, State.post_targets, State.modTarget_eq]
  exact calm_withTarget (.of_state (by simp) (by simp)) u

theorem sendWake_sameKeys (s : State) (t : TargetNo) (level : Level) : SameKeys s (s.sendWake t level) :=
  .of_eq (by rw [State.sendWake, State.post_records]; rfl)

theorem reexamine_calm (s : State) (t u : TargetNo) : Calm s.targets[u] (s.reexamine t).targets[u] := by
  rcases State.reexamine_cases s t with h | ⟨r, -, -, h⟩ <;> rw [h]
  · exact .refl _
  · exact makeOffer_calm s t r u

theorem reexamine_sameKeys (s : State) (t : TargetNo) : SameKeys s (s.reexamine t) := by
  rcases State.reexamine_cases s t with h | ⟨r, -, -, h⟩ <;> rw [h]
  · exact .refl _
  · exact makeOffer_sameKeys s t r

theorem notify_calm (s : State) (t : TargetNo) (level : Level) (u : TargetNo) :
    Calm s.targets[u] (s.notify t level).targets[u] := by
  rcases State.notify_cases s t level with h | h | ⟨-, -, h⟩ <;> rw [h]
  · exact .refl _
  · exact reexamine_calm s t u
  · exact sendWake_calm s t level u

theorem notify_sameKeys (s : State) (t : TargetNo) (level : Level) : SameKeys s (s.notify t level) := by
  rcases State.notify_cases s t level with h | h | ⟨-, -, h⟩ <;> rw [h]
  · exact .refl _
  · exact reexamine_sameKeys s t
  · exact sendWake_sameKeys s t level

/-- A target that is re-examined in READY owes nothing (R97). -/
theorem reexamine_notDue {s : State} {t : TargetNo} (hasleep : s.targets[t].state ≠ .asleep) (l : Level) :
    NotDue (s.reexamine t) t l := by
  unfold State.reexamine
  split
  · next hready =>
    split
    · refine .of_state l ?_ ?_ <;> rw [makeOffer_state] <;> decide
    · next hnone =>
      exact fun r hr ht _ => ⟨fun _ => State.eligibleHead_none hnone hr ht, fun h => absurd h hasleep⟩
  · next hready => exact .of_state l hready hasleep

/-- A target owes nothing at the level of a placement that is reported to it (R58, R90, R116). -/
theorem notify_notDue (s : State) (t : TargetNo) (level : Level) : NotDue (s.notify t level) t level := by
  unfold State.notify
  split
  · next hasleep =>
    split
    · refine .of_state level ?_ ?_ <;> rw [sendWake_state] <;> decide
    · next hlevel =>
      exact fun r _ _ hl => ⟨fun h => absurd (hasleep.symm.trans h) (by decide), fun _ => hl ▸ not_le.1 hlevel⟩
  · next hasleep => exact reexamine_notDue hasleep level

/-- The wake test at entry into ASLEEP leaves nothing due (R115). -/
theorem wakeCause_none {s : State} {t : TargetNo} (h : s.wakeCause t = none) {r : Record} (hr : r ∈ s.records)
    (ht : r.target = t) : s.targets[t].wakeLevel < r.level := by
  unfold State.wakeCause at h
  have hlevel := List.find?_eq_none.1 h r.level (List.mem_finRange _)
  by_contra hle
  refine hlevel ?_
  have hmem : r ∈ s.levelList t r.level := State.mem_levelList.2 ⟨hr, ht, rfl⟩
  rw [Bool.and_eq_true, decide_eq_true_iff]
  refine ⟨not_lt.1 hle, ?_⟩
  cases hlist : s.levelList t r.level with
  | nil =>
    rw [hlist] at hmem
    cases hmem
  | cons => rfl

theorem enterAsleep_notDue (s : State) (t : TargetNo) (w l : Level) : NotDue (s.enterAsleep t w) t l := by
  unfold State.enterAsleep
  dsimp only
  split
  · refine .of_state l ?_ ?_ <;> rw [sendWake_state] <;> decide
  · next hnone =>
    refine fun r hr ht _ => ⟨fun h => ?_, fun _ => wakeCause_none hnone hr ht⟩
    rw [State.modTarget_eq, State.withTarget_self] at h
    cases h

/-! ## Withdrawals (R34) -/

theorem foldInto_sameKeys (s : State) (r : Record) (n : Nat) (p : List Word) (o : Origin) :
    SameKeys s (s.foldInto r n p o) := by
  refine (SameKeys.changeRecord s r.slot fun x => ?_).trans (.of_eq (foldInto_records s r n p o))
  obtain ⟨-, ht, -, hl, -, -⟩ := fold_fixed x n p o
  exact ⟨ht, hl⟩

theorem withdraw_sameKeys (s : State) (r : Record) : SameKeys s (s.withdraw r) := by
  have hreturned := SameKeys.changeRecord s r.slot (f := fun x => { x with offer := none }) fun _ => ⟨rfl, rfl⟩
  unfold State.withdraw
  dsimp only
  split
  · exact hreturned
  · next w _ =>
    exact ((hreturned.trans (.freeRecord _ w.slot)).trans (foldInto_sameKeys _ r _ _ _)).trans
      (notify_sameKeys _ _ _)

theorem withdraw_calm (s : State) (r : Record) (u : TargetNo) : Calm s.targets[u] (s.withdraw r).targets[u] := by
  unfold State.withdraw
  dsimp only
  split
  · exact .refl _
  · next w _ =>
    have hcalm := notify_calm (((s.changeRecord r.slot fun x => { x with offer := none }).freeRecord
      w.slot).foldInto r (w.count.getD 0) w.payload w.origin) r.target r.level u
    rw [foldInto_targets] at hcalm
    exact hcalm

end Sys2Proof.Proofs
end

section
/-! What the delivery operations do to a state, as a sequence of small moves: frames handed over, reports, and the
changes of one target's block and of the pool that go together. Each shared operation of the Delivery Controller, the
Pending Store and the Arrival Unit is such a sequence, so what every move keeps, every operation keeps. -/

open Sys2Proof Sys2Proof.Machine

namespace Sys2Proof.Proofs

/-! ## What a sequence of moves may leave -/

/-- What `LinksSound` asks of one link, with the image load and the EVENT frames in progress as given. -/
def LinkFits (loading : Bool) (arriving : Vector (Option PassedEvent) 12) (s : State) (l : LinkNo) : Prop :=
  LinkSound s.links[l] ∧ (s.links[l].state = .down ↔ loading = true) ∧
    (∀ t, l = targetLink t → (s.targets[t].state = .offline ↔ s.isUp l = false)) ∧
    ∀ n, l = sourceLink n → ∀ p ∈ arriving[n], loading = false ∧ p.session ≤ s.links[l].session ∧
      (s.isUp l = true → s.links[l].session = p.session →
        s.links[l].ingress.find? InFrame.isEvent = some (.event p.event p.payload))

/-- What a sequence of moves may leave: claims of targets taken, levels of targets overdue, and links not sound. With
`payload`, the payloads that come from outside the pool are in range. -/
structure Leave where
  payload : Prop
  claim : TargetNo → Prop
  overdue : TargetNo → Level → Prop
  link : LinkNo → Prop

/-- Everything may be left, and no payload need be in range. -/
def Leave.any : Leave :=
  { payload := False, claim := fun _ => True, overdue := fun _ _ => True, link := fun _ => True }

/-- Further levels may be overdue. -/
def Leave.owing (P : Leave) (owed : TargetNo → Level → Prop) : Leave :=
  { P with overdue := fun t l => owed t l ∨ P.overdue t l }

/-- A link may be left as well. -/
def Leave.leaving (P : Leave) (l : LinkNo) : Leave :=
  { P with link := fun m => m = l ∨ P.link m }

/-- Claims of the target of a link may be taken as well. -/
def Leave.claiming (P : Leave) (l : LinkNo) : Leave :=
  { P with claim := fun t => l = targetLink t ∨ P.claim t }

/-! ## The moves -/

/-- The body is within the 48 bytes of R196, or the frame is the OFFER of a record of the pool. -/
def FrameFits (records : List Record) (f : OutFrame) : Prop :=
  (f.body 0).length ≤ 48 ∨ ∃ r ∈ records, ∃ tag, f = .offer (r.offerFrame tag)

/-- The block `g` has the offer of the block `old`, no entry more on its stack, and timers as its state asks. -/
structure Adjusts (P : Leave) (t : TargetNo) (old g : Target) : Prop where
  offered : g.state = .offered ↔ old.state = .offered
  offline : g.state = .offline ↔ old.state = .offline
  offer : g.offer = old.offer
  stack : g.stack.Sublist old.stack
  timers : TimersSound old → TimersSound g
  calm : (∀ l, P.overdue t l) ∨ Calm old g

/-- The block `g` is out of every offer, in a state with the right timers; its stack comes from `stack`. -/
structure Rests (P : Leave) (t : TargetNo) (old : Target) (stack : List InService) (g : Target) : Prop where
  state : g.state ≠ .offered
  offline : old.state = .offline → g.state = .offline
  awake : P.link (targetLink t) ∨ (g.state = .offline → old.state = .offline)
  offer : g.offer = none
  stack : g.stack.Sublist stack
  timers : TimersSound g
  calm : (∀ l, P.overdue t l) ∨ Calm old g

/-- The record may join the pool: its slot is free, its fields are in range, and its key has room (R23, R27, R30). -/
structure Joins (P : Leave) (s : State) (x : Record) : Prop where
  slot : x.slot ∈ s.freeSlots
  offer : x.offer = none
  sound : P.payload → RecordSound x
  waiting : x.mode ≠ .queue → s.waitingRecords x.target x.index x.mode = []
  queue : x.mode = .queue → s.queueCount x.target x.index < 8
  overdue : P.overdue x.target x.level

/-- The state in which a record is marked as under offer, before its OFFER is handed over (R98, R100). -/
def markOffered (s : State) (t : TargetNo) (r : Record) : State :=
  (s.changeRecord r.slot fun x =>
      { x with offer := some { tag := s.targets[t].tagCounter, void := false } }).withTarget t
    { s.targets[t] with
      state := .offered
      offer := some { tag := s.targets[t].tagCounter, slot := r.slot }
      tagCounter := s.targets[t].tagCounter + 1
      claimTimer := some s.timers[t].claimTimeout
      retriesLeft := some s.timers[t].retries }

/-- `Delivers P s b`: the state `b` comes from `s` by moves of the Delivery Controller, the Pending Store and the Fault
Unit, which may leave what `P` says. -/
inductive Delivers : Leave → State → State → Prop where
  | refl {P : Leave} (s : State) : Delivers P s s
  | trans {P : Leave} {a b c : State} : Delivers P a b → Delivers P b c → Delivers P a c
  | paid {P : Leave} {s b : State} (owed : TargetNo → Level → Prop) (h : Delivers (P.owing owed) s b)
      (hb : ∀ t l, owed t l → NotDue s t l → NotDue b t l) : Delivers P s b
  | hand {P : Leave} (s : State) (l : LinkNo) (n : Nat) (q : Queued) (hcredit : q.frame ≠ .credit)
      (hfits : FrameFits s.records q.frame) : Delivers P s (s.handOver l n q)
  | report {P : Leave} (s : State) (r : FaultRecord) (marked : Bool) : Delivers P s (s.report r marked)
  | adjust {P : Leave} (s : State) (t : TargetNo) (g : Target) (h : Adjusts P t s.targets[t] g) :
      Delivers P s (s.withTarget t g)
  | rest {P : Leave} (s : State) (t : TargetNo) (g : Target) (hidle : s.currentOffer t = none)
      (h : Rests P t s.targets[t] s.targets[t].stack g) : Delivers P s (s.withTarget t g)
  | offer {P : Leave} (s : State) (t : TargetNo) (r : Record) (hready : s.targets[t].state = .ready)
      (hhead : s.eligibleHead t = some r) : Delivers P s (markOffered s t r)
  | close {P : Leave} (s : State) (t : TargetNo) (o : Offer) (r : Record) (m : OfferMark) (g : Target)
      (hoffer : s.currentOffer t = some (o, r, m))
      (h : Rests P t s.targets[t] (claimEntry o r :: s.targets[t].stack) g)
      (hclaim : P.claim t ∨ g.stack.Sublist s.targets[t].stack) :
      Delivers P s ((s.freeRecord r.slot).withTarget t g)
  | withdraw {P : Leave} (s : State) (t : TargetNo) (o : Offer) (r : Record) (m : OfferMark) (g : Target)
      (hoffer : s.currentOffer t = some (o, r, m)) (h : Rests P t s.targets[t] s.targets[t].stack g) :
      Delivers P s ((s.withdraw r).withTarget t g)
  | add {P : Leave} (s : State) (x : Record) (h : Joins P s x) : Delivers P s (s.setRecords (s.records ++ [x]))
  | fold {P : Leave} (s : State) (n : SlotNo) (added : Nat) (payload : List Word) (o : Origin)
      (hpayload : P.payload → payload.length ≤ 2) : Delivers P s (s.changeRecord n fun x => x.fold added payload o)
  | cancel {P : Leave} (s : State) (t : TargetNo) (i : Index) :
      Delivers P s (s.setRecords (cancelRecords t i s.records))

theorem cancelRecords_sameKeys (s : State) (t : TargetNo) (i : Index) :
    SameKeys s (s.setRecords (cancelRecords t i s.records)) := by
  intro r hr
  obtain ⟨x, hx, rfl⟩ := List.mem_map.1 hr
  refine ⟨x, List.mem_of_mem_filter hx, ?_⟩
  split <;> exact ⟨rfl, rfl⟩

/-- Moves make no record overdue but where they may leave one (R97, R115, R116). -/
theorem Delivers.notDue {P : Leave} {s b : State} (h : Delivers P s b) {t : TargetNo} {l : Level} :
    ¬ P.overdue t l → NotDue s t l → NotDue b t l := by
  induction h with
  | refl => exact fun _ => id
  | trans _ _ hab hbc => exact fun hP => hbc hP ∘ hab hP
  | @paid P s b owed _ hb ih =>
    intro hnot hs
    by_cases howed : owed t l
    · exact hb t l howed hs
    · exact ih (fun hdue => hdue.elim howed hnot) hs
  | hand s m n q => exact fun _ => .of_eq (State.handOver_records ..) (State.handOver_targets ..)
  | report s r marked => exact fun _ => .of_eq (State.report_records ..) (State.report_targets ..)
  | adjust s u g h =>
    intro hnot
    by_cases hu : t = u
    · subst hu
      exact .of_calm (.refl s) (calm_withTarget (h.calm.resolve_left fun hall => hnot (hall l)) t)
    · exact .of_calm (.refl s) (by rw [State.withTarget_ne _ _ hu]; exact .refl _)
  | rest s u g _ h =>
    intro hnot
    by_cases hu : t = u
    · subst hu
      exact .of_calm (.refl s) (calm_withTarget (h.calm.resolve_left fun hall => hnot (hall l)) t)
    · exact .of_calm (.refl s) (by rw [State.withTarget_ne _ _ hu]; exact .refl _)
  | offer s u r _ _ =>
    exact fun _ => .of_calm (.changeRecord s r.slot fun _ => ⟨rfl, rfl⟩)
      (calm_withTarget (s := s.changeRecord r.slot _) (.of_state (by simp) (by simp)) t)
  | close s u o r m g _ h _ =>
    intro hnot
    by_cases hu : t = u
    · subst hu
      exact .of_calm (.freeRecord s r.slot)
        (calm_withTarget (s := s.freeRecord r.slot) (h.calm.resolve_left fun hall => hnot (hall l)) t)
    · exact .of_calm (.freeRecord s r.slot) (by rw [State.withTarget_ne _ _ hu]; exact .refl _)
  | withdraw s u o r m g hoffer h =>
    intro hnot
    by_cases hu : t = u
    · subst hu
      refine .of_calm (withdraw_sameKeys s r) ?_
      rw [State.withTarget_self]
      exact h.calm.resolve_left fun hall => hnot (hall l)
    · exact .of_calm (withdraw_sameKeys s r) (by rw [State.withTarget_ne _ _ hu]; exact withdraw_calm s r t)
  | add s x h =>
    intro hnot hs r hr ht hl
    rcases List.mem_append.1 hr with hr | hr
    · exact hs r hr ht hl
    · obtain rfl := List.mem_singleton.1 hr
      exact absurd (ht ▸ hl ▸ h.overdue) hnot
  | fold s n added payload o _ =>
    refine fun _ => .of_calm (.changeRecord s n fun x => ?_) (.refl _)
    obtain ⟨-, hxt, -, hxl, -, -⟩ := fold_fixed x added payload o
    exact ⟨hxt, hxl⟩
  | cancel s u i => exact fun _ => .of_calm (cancelRecords_sameKeys s u i) (.refl _)

namespace Delivers

variable {P : Leave}

/-! ## Sending and reporting -/

theorem post (s : State) (l : LinkNo) {f : OutFrame} (hcredit : f ≠ .credit) (hfits : FrameFits s.records f) :
    Delivers P s (s.post l f) :=
  .hand s l _ _ hcredit hfits

/-- A frame with a body of at most two bytes. -/
theorem fits_of_length_le_two {records : List Record} {f : OutFrame} (h : (f.body 0).length ≤ 2) :
    FrameFits records f :=
  .inl (h.trans (by decide))

theorem sendErr (s : State) (t : TargetNo) (reason : ErrReason) (value : Byte) (index : Option Index) :
    Delivers P s (s.sendErr t reason value index) :=
  (post s _ OutFrame.noConfusion (fits_of_length_le_two le_rfl)).trans (.report _ _ _)

/-! ## Offers and wakes -/

theorem makeOffer {s : State} {t : TargetNo} {r : Record} (hready : s.targets[t].state = .ready)
    (hhead : s.eligibleHead t = some r) : Delivers P s (s.makeOffer t r) := by
  refine (Delivers.offer s t r hready hhead).trans (post _ _ (by simp) (.inr ?_))
  obtain ⟨hr, -, -⟩ := State.eligibleHead_some hhead
  exact ⟨_, List.mem_map_of_mem hr, _, by rw [if_pos rfl]; rfl⟩

theorem reexamine (s : State) (t : TargetNo) : Delivers P s (s.reexamine t) := by
  rcases State.reexamine_cases s t with h | ⟨r, hready, hhead, h⟩ <;> rw [h]
  · exact .refl s
  · exact makeOffer hready hhead

theorem adjusts_waking {t : TargetNo} {old g : Target} (hasleep : old.state = .asleep) (hstate : g.state = .waking)
    (hoffer : g.offer = old.offer) (hstack : g.stack = old.stack) (hclaim : g.claimTimer.isSome)
    (hhold : g.holdTimer = old.holdTimer) (hretries : g.retriesLeft.isSome) (hwake : g.wakeSent.isSome) :
    Adjusts P t old g where
  offered := by simp [hasleep, hstate]
  offline := by simp [hasleep, hstate]
  offer := hoffer
  stack := by rw [hstack]
  timers := by simp_all [TimersSound]
  calm := .inr (.of_state (by simp [hstate]) (by simp [hstate]))

theorem sendWake {s : State} {t : TargetNo} (hasleep : s.targets[t].state = .asleep) (level : Level) :
    Delivers P s (s.sendWake t level) := by
  refine (Delivers.adjust s t _ ?_).trans (post _ _ OutFrame.noConfusion (fits_of_length_le_two ?_))
  · exact adjusts_waking hasleep rfl rfl rfl rfl rfl rfl rfl
  · exact one_le_two

theorem notify (s : State) (t : TargetNo) (level : Level) : Delivers P s (s.notify t level) := by
  rcases State.notify_cases s t level with h | h | ⟨hasleep, -, h⟩ <;> rw [h]
  · exact .refl s
  · exact reexamine s t
  · exact sendWake hasleep level

/-! ## Targets that owe offers and wakes -/

/-- Moves that a re-examination ends. -/
theorem examined {s b : State} {t : TargetNo} (h : Delivers (P.owing fun u _ => u = t) s b)
    (hasleep : b.targets[t].state ≠ .asleep) : Delivers P s (b.reexamine t) :=
  .paid _ (h.trans (reexamine b t)) fun _ l hu _ => hu ▸ reexamine_notDue hasleep l

/-- A target enters READY (R95). -/
theorem rests_ready {t : TargetNo} {old : Target} (hoffline : old.state ≠ .offline) {stack : List InService}
    (hstack : old.stack.Sublist stack) : Rests (P.owing fun u _ => u = t) t old stack (old.enter .ready) where
  state := by simp [Target.enter]
  offline h := absurd h hoffline
  awake := .inr (by simp [Target.enter])
  offer := rfl
  stack := hstack
  timers := by simp [TimersSound, Target.enter]
  calm := .inl fun _ => .inl rfl

theorem enterReady {s : State} {t : TargetNo} (hidle : s.targets[t].state ≠ .offered)
    (hoffline : s.targets[t].state ≠ .offline) : Delivers P s (s.enterReady t) :=
  examined (.rest s t _ (State.currentOffer_none hidle) (rests_ready hoffline (.refl _)))
    (by rw [State.modTarget_eq, State.withTarget_self]; exact TargetState.noConfusion)

/-! ## Ends of an offer (R103, R104, R107, R108, R111, R112) -/

/-- A freed record under offer leaves its target in READY, re-examined. -/
theorem freeRecord_enterReady {s : State} {t : TargetNo} {o : Offer} {r : Record} {m : OfferMark}
    (hoffer : s.currentOffer t = some (o, r, m)) : Delivers P s ((s.freeRecord r.slot).enterReady t) :=
  examined (.close s t o r m _ hoffer (rests_ready (not_offline_of_currentOffer hoffer) (List.sublist_cons_self _ _))
    (.inr (.refl _))) (by rw [State.modTarget_eq, State.withTarget_self]; exact TargetState.noConfusion)

theorem acceptClaim {s : State} {t : TargetNo} {o : Offer} {r : Record} {m : OfferMark} (hclaim : P.claim t)
    (hoffer : s.currentOffer t = some (o, r, m)) : Delivers P s (s.acceptClaim t o r) := by
  rw [acceptClaim_eq]
  refine examined (.close s t o r m _ hoffer ?_ (.inl hclaim))
    (by rw [State.withTarget_self]; exact TargetState.noConfusion)
  exact
    { state := by simp [Target.enter]
      offline := fun h => absurd h (not_offline_of_currentOffer hoffer)
      awake := .inr (by simp [Target.enter])
      offer := rfl
      stack := .refl _
      timers := by simp [TimersSound, Target.enter]
      calm := .inl fun _ => .inl rfl }

/-! ## Taking a target frame -/

theorem refuseTag (s : State) (t : TargetNo) (tag : Byte) : Delivers P s (s.refuseTag t tag) := by
  unfold State.refuseTag
  split <;> exact sendErr ..

theorem takeClaim (s : State) (t : TargetNo) (tag : Byte) (hclaim : P.claim t) : Delivers P s (s.takeClaim t tag) := by
  unfold State.takeClaim
  split
  · next o r m hoffer =>
    split
    · split
      · refine (post s (targetLink t) (f := .void tag) OutFrame.noConfusion
          (fits_of_length_le_two one_le_two)).trans ?_
        exact freeRecord_enterReady ((currentOffer_post s t _ _).trans hoffer)
      · exact acceptClaim hclaim hoffer
    · exact refuseTag s t tag
  · exact refuseTag s t tag

/-- A withdrawal leaves its target in a state without offers; `f` gives the new block. -/
theorem withdraw_modTarget {s : State} {t : TargetNo} {o : Offer} {r : Record} {m : OfferMark}
    (hoffer : s.currentOffer t = some (o, r, m)) {f : Target → Target}
    (h : Rests P t s.targets[t] s.targets[t].stack (f s.targets[t])) :
    Delivers P s ((s.withdraw r).modTarget t f) := by
  obtain ⟨hstate, -⟩ := State.currentOffer_some hoffer
  rw [State.modTarget_eq, withdraw_target s r hstate]
  exact .withdraw s t o r m _ hoffer h

theorem takeRefuse (s : State) (t : TargetNo) (tag : Byte) : Delivers P s (s.takeRefuse t tag) := by
  unfold State.takeRefuse
  split
  · next o r m hoffer =>
    split
    · split
      · exact freeRecord_enterReady hoffer
      · refine withdraw_modTarget hoffer ?_
        exact
          { state := by simp [Target.enter]
            offline := fun h => absurd h (not_offline_of_currentOffer hoffer)
            awake := .inr (by simp [Target.enter])
            offer := rfl
            stack := .refl _
            timers := by simp [TimersSound, Target.enter]
            calm := .inr (.of_state (by simp [Target.enter]) (by simp [Target.enter])) }
    · exact refuseTag s t tag
  · exact refuseTag s t tag

/-- A change of the stack or the threshold, then a re-examination. -/
theorem adjust_reexamine {s : State} {t : TargetNo} {g : Target} (hstate : g.state = s.targets[t].state)
    (hwake : g.wakeLevel = s.targets[t].wakeLevel) (hoffer : g.offer = s.targets[t].offer)
    (hstack : g.stack.Sublist s.targets[t].stack) (htimers : TimersSound s.targets[t] → TimersSound g) :
    Delivers P s ((s.withTarget t g).reexamine t) := by
  have hadjusts : ∀ Q : Leave, ((∀ l, Q.overdue t l) ∨ Calm s.targets[t] g) → Adjusts Q t s.targets[t] g :=
    fun Q hcalm => ⟨by rw [hstate], by rw [hstate], hoffer, hstack, htimers, hcalm⟩
  by_cases hready : s.targets[t].state = .ready
  · refine examined (.adjust s t g (hadjusts _ (.inl fun _ => .inl rfl))) ?_
    rw [State.withTarget_self, hstate, hready]
    exact TargetState.noConfusion
  · refine (Delivers.adjust s t g (hadjusts P (.inr ⟨fun h => ?_, fun h => ?_⟩))).trans (reexamine _ t)
    · exact absurd (hstate.symm.trans h) hready
    · exact ⟨hstate.symm.trans h, hwake.le⟩

theorem takeDone (s : State) (t : TargetNo) (tag : Byte) : Delivers P s (s.takeDone t tag) := by
  unfold State.takeDone
  split
  · exact sendErr ..
  · next top deeper hstack =>
    split
    · refine adjust_reexamine rfl rfl rfl ?_ id
      rw [hstack]
      exact List.sublist_cons_self top deeper
    · split <;> exact sendErr ..

theorem takeReady (s : State) (t : TargetNo) : Delivers P s (s.takeReady t) := by
  unfold State.takeReady
  split
  case h_1 | h_2 | h_3 => exact .refl s
  all_goals
    next hstate => exact enterReady (by rw [hstate]; decide) (by rw [hstate]; decide)

theorem takeLevel (s : State) (t : TargetNo) (value : Byte) : Delivers P s (s.takeLevel t value) := by
  unfold State.takeLevel
  split
  · exact adjust_reexamine rfl rfl rfl (.refl _) id
  · exact sendErr ..

theorem enterAsleep {s : State} {t : TargetNo} (hidle : s.targets[t].state ≠ .offered)
    (hoffline : s.targets[t].state ≠ .offline) (w : Level) : Delivers P s (s.enterAsleep t w) := by
  have hasleep : Delivers (P.owing fun u _ => u = t) s _ := .rest s t { Target.enter .asleep s.targets[t] with wakeLevel := w }
    (State.currentOffer_none hidle)
    { state := by simp [Target.enter]
      offline := fun h => absurd h hoffline
      awake := .inr (by simp [Target.enter])
      offer := rfl
      stack := .refl _
      timers := by simp [TimersSound, Target.enter]
      calm := .inl fun _ => .inl rfl }
  refine .paid (fun u _ => u = t) ?_ fun _ l hu _ => hu ▸ enterAsleep_notDue s t w l
  unfold State.enterAsleep
  dsimp only
  split
  · refine hasleep.trans (sendWake ?_ _)
    rw [State.withTarget_self]
    rfl
  · exact hasleep

theorem takeSleep {s : State} {t : TargetNo} (hoffline : s.targets[t].state ≠ .offline) (value : Byte) :
    Delivers P s (s.takeSleep t value) := by
  unfold State.takeSleep
  split
  · exact sendErr ..
  · split
    · exact post s _ OutFrame.noConfusion (fits_of_length_le_two le_rfl)
    · next hidle => exact enterAsleep hidle hoffline _

theorem takeTargetFrame {s : State} {t : TargetNo} (hoffline : s.targets[t].state ≠ .offline) (f : InFrame)
    (hclaim : ∀ tag, f = .claim tag → P.claim t) : Delivers P s (s.takeTargetFrame t f) := by
  cases f with
  | event _ _ => exact .refl s
  | request _ _ _ => exact .refl s
  | claim tag => exact takeClaim s t tag (hclaim tag rfl)
  | refuse tag => exact takeRefuse s t tag
  | done tag => exact takeDone s t tag
  | ready => exact takeReady s t
  | level value => exact takeLevel s t value
  | sleep value => exact takeSleep hoffline value

/-! ## Timers (R109, R111, R112, R117) -/

theorem adjusts_resend {t : TargetNo} {old : Target} {retries r : Fin 8} (h : old.retriesLeft = some r) (u : Byte)
    (hclaim : old.claimTimer.isSome) :
    Adjusts P t old { old with claimTimer := some u, retriesLeft := some retries } :=
  ⟨Iff.rfl, Iff.rfl, rfl, .refl _, by simp_all [TimersSound], .inr (.refl old)⟩

theorem resend {s : State} {t : TargetNo} {retries : Fin 8} {f : OutFrame}
    (hretry : s.targets[t].retry = some retries) (hclaim : s.targets[t].claimTimer.isSome = true)
    (hcredit : f ≠ .credit) (hfits : FrameFits s.records f) : Delivers P s (s.resend t retries f) := by
  obtain ⟨r, hr⟩ : ∃ r, s.targets[t].retriesLeft = some r := by
    unfold Target.retry at hretry
    split at hretry
    · next r hr => exact ⟨r, hr⟩
    · cases hretry
  exact (Delivers.adjust s t _ (adjusts_resend hr _ hclaim)).trans (post _ _ hcredit hfits)

/-! ## Session ends (R91, R121) -/

theorem rests_sessionEnded {t : TargetNo} (hlink : P.link (targetLink t)) (old : Target) (stack : List InService) :
    Rests P t old stack (sessionEnded old) where
  state := by simp [sessionEnded, Target.resting]
  offline _ := rfl
  awake := .inl hlink
  offer := rfl
  stack := List.nil_sublist _
  timers := by simp [sessionEnded, Target.resting, TimersSound]
  calm := .inr (.of_state (by simp [sessionEnded, Target.resting]) (by simp [sessionEnded, Target.resting]))

theorem reports (s : State) (r : Option FaultRecord) : Delivers P s (reportSome s r) := by
  cases r with
  | none => exact .refl s
  | some r => exact .report s r false

theorem targetSessionEnd (s : State) (t : TargetNo) (hlink : P.link (targetLink t)) :
    Delivers P s (s.targetSessionEnd t) := by
  by_cases h : s.targets[t].state = .offline
  · rw [State.targetSessionEnd, if_pos h]
    exact .refl s
  · rw [targetSessionEnd_eq h]
    refine trans ?_ (reports _ _)
    have hrests := rests_sessionEnded hlink s.targets[t]
    unfold State.endOffer
    cases hoffer : s.currentOffer t with
    | none => exact .rest s t _ hoffer (hrests _)
    | some c =>
      obtain ⟨o, r, m⟩ := c
      dsimp only
      split
      · exact .close s t o r m _ hoffer (hrests _) (.inr (List.nil_sublist _))
      · exact .withdraw s t o r m _ hoffer (hrests _)

/-! ## Placement (R25, R28, R29, R31, R58) -/

theorem foldInto (s : State) (r : Record) (n : Nat) {p : List Word} (o : Origin) (hp : P.payload → p.length ≤ 2) :
    Delivers P s (s.foldInto r n p o) := by
  unfold State.foldInto
  dsimp only
  split
  · exact .fold s r.slot n p o hp
  · exact (Delivers.fold s r.slot n p o hp).trans (.report ..)

theorem joins_newRecord {s : State} {slot : SlotNo} {t : TargetNo} {i : Index} {e : Entry} {o : Origin}
    {p : List Word} (hslot : slot ∈ s.freeSlots) (hnone : s.coalesceWith t i e.mode = none)
    (hqueue : e.mode = .queue → s.queueCount t i < 8) (hp : P.payload → p.length ≤ 2) (hdue : P.overdue t e.level) :
    Joins P s (newRecord slot t i e o p) where
  slot := hslot
  offer := rfl
  sound := fun h => by
    by_cases hmode : e.mode = .count <;> simp [RecordSound, newRecord, hmode, hp h]
  waiting := fun hmode => by
    have hmode : e.mode ≠ .queue := hmode
    rw [coalesceWith_eq_head hmode, List.head?_eq_none_iff] at hnone
    exact hnone
  queue := hqueue
  overdue := hdue

theorem placeFor {s : State} {i : Index} {e : Entry} {t : TargetNo} {p : List Word} (o : Origin)
    (hqueue : e.mode = .queue → s.queueCount t i < 8) (hp : P.payload → p.length ≤ 2)
    (hdue : s.coalesceWith t i e.mode = none → P.overdue t e.level) : Delivers P s (s.placeFor i e o p t) := by
  unfold State.placeFor
  split
  · exact foldInto s _ 1 o hp
  · next hnone =>
    split
    · next slot hslot => exact .add s _ (joins_newRecord (List.mem_of_head? hslot) hnone hqueue hp (hdue hnone))
    · exact .refl s

/-- The placement for several targets, each taken once, before any report. -/
theorem placeAll {i : Index} {e : Entry} {p : List Word} (o : Origin) (hp : P.payload → p.length ≤ 2)
    {ts : List TargetNo} (hnodup : ts.Nodup) {s : State} (hqueue : e.mode = .queue → ∀ t ∈ ts, s.queueCount t i < 8)
    (hdue : ∀ t ∈ ts, s.coalesceWith t i e.mode = none → P.overdue t e.level) :
    Delivers P s (ts.foldl (fun x t => x.placeFor i e o p t) s) := by
  induction ts generalizing s with
  | nil => exact .refl s
  | cons t ts ih =>
    obtain ⟨hout, hrest⟩ := List.nodup_cons.1 hnodup
    have hne : ∀ u ∈ ts, u ≠ t := fun u hu hut => hout (hut ▸ hu)
    refine (placeFor o (fun h => hqueue h t (by simp)) hp (hdue t (by simp))).trans
      (ih hrest (fun h u hu => ?_) fun u hu hnone => ?_)
    · rw [placeFor_queueCount_ne s i e o p (hne u hu)]
      exact hqueue h u (List.mem_cons_of_mem t hu)
    · exact hdue u (List.mem_cons_of_mem t hu) ((placeFor_coalesceWith_ne s i e o p (hne u hu)).1 hnone)

theorem notifyAll (level : TargetNo → Level) (ts : List TargetNo) (s : State) :
    Delivers P s (ts.foldl (fun x t => x.notify t (level t)) s) := by
  induction ts generalizing s with
  | nil => exact .refl s
  | cons t ts ih => exact (notify s t _).trans (ih _)

end Delivers

/-- Nothing may be left overdue. -/
def Leave.prompt : Leave :=
  { Leave.any with overdue := fun _ _ => False }

/-- The targets to which a placement is reported owe nothing at its level (R58). -/
theorem notifyAll_notDue (level : TargetNo → Level) {ts : List TargetNo} {t : TargetNo} (ht : t ∈ ts) (s : State) :
    NotDue (ts.foldl (fun x u => x.notify u (level u)) s) t (level t) := by
  induction ts generalizing s with
  | nil => cases ht
  | cons u us ih =>
    rcases List.mem_cons.1 ht with rfl | ht
    · exact (Delivers.notifyAll (P := .prompt) level us _).notDue id (notify_notDue s t (level t))
    · exact ih ht _

/-! ## Arrivals (R45) -/

variable {P : Leave}

/-- `Arrived P s b`: an arrival changes `s` to `b`, by moves and a move of the rotation pointers, or by one latch at a
masked index. -/
def Arrived (P : Leave) (s b : State) : Prop :=
  (∃ m pointers, Delivers P s m ∧ b = { m with pointers := pointers }) ∨
    ∃ (i : Index) (o : Origin), s.maskMap[i] = true ∧ b = { s with latches := s.latches.set i (some o) }

theorem Arrived.of_delivers {s b : State} (h : Delivers P s b) : Arrived P s b :=
  .inl ⟨b, b.pointers, h, rfl⟩

/-- No chosen target is at the queue limit, so each of them holds fewer than 8 QUEUE records (R56). -/
theorem queueCount_lt_of_not_full {s : State} {i : Index} {e : Entry} {chosen : List TargetNo}
    (h : s.fullTarget i e chosen = none) (hmode : e.mode = .queue) {t : TargetNo} (ht : t ∈ chosen) :
    s.queueCount t i < 8 := by
  rw [State.fullTarget, if_pos hmode, List.find?_eq_none] at h
  have hlimit := h t ht
  have := e.queueLimit.isLt
  simp only [decide_eq_true_eq] at hlimit
  omega

/-- A placement before its pointer moves: the parts of the targets, then the reports. -/
theorem placed_delivers {s : State} {i : Index} {e : Entry} {p : List Word} (o : Origin)
    (hp : P.payload → p.length ≤ 2) (chosen order : List TargetNo) (hfull : s.fullTarget i e chosen = none) :
    Delivers P s ((takenOrder order chosen).foldl (fun x t => x.notify t (s.reachedLevel i e t))
      ((takenOrder order chosen).foldl (fun x t => x.placeFor i e o p t) s)) := by
  have hplaced := Delivers.placeAll (P := P.owing fun t l => t ∈ takenOrder order chosen ∧ l = s.reachedLevel i e t)
    o hp (takenOrder_nodup order chosen)
    (fun hmode _ ht => queueCount_lt_of_not_full hfull hmode (mem_takenOrder.1 ht))
    (fun t ht hnone => .inl ⟨ht, by rw [State.reachedLevel, hnone]⟩)
  refine .paid _ (hplaced.trans (.notifyAll (s.reachedLevel i e) _ _)) ?_
  rintro t _ ⟨ht, rfl⟩ _
  exact notifyAll_notDue _ ht _

theorem place_arrived {s : State} {i : Index} {e : Entry} {p : List Word} (o : Origin) (hp : P.payload → p.length ≤ 2)
    (chosen order : List TargetNo) (hfull : s.fullTarget i e chosen = none) :
    Arrived P s (s.place i e o p chosen order) := by
  have hplaced := placed_delivers o hp chosen order hfull
  unfold State.place
  dsimp only
  split
  · exact .inl ⟨_, _, hplaced, rfl⟩
  · exact .of_delivers hplaced

theorem arriveAt_arrived {s : State} {a : Arrival} (hp : P.payload → a.payload.length ≤ 2) (order : List TargetNo)
    (i : Index) (e : Entry) : Arrived P s (s.arriveAt a order i e).1 := by
  rcases State.arriveAt_cases s a order i e with ⟨hmask, h⟩ | ⟨_, _, _, _, h⟩ | ⟨-, -, hfull, -, h⟩ <;> rw [h]
  · exact .inr ⟨i, a.origin, hmask, rfl⟩
  · exact .of_delivers (.report ..)
  · exact place_arrived a.origin hp _ order hfull

theorem arrive_arrived {s : State} {a : Arrival} (hp : P.payload → a.payload.length ≤ 2) (order : List TargetNo) :
    Arrived P s (s.arrive a order).1 := by
  unfold State.arrive
  dsimp only
  split
  · exact .of_delivers (.report ..)
  · exact arriveAt_arrived hp order _ _

end Sys2Proof.Proofs
end

section
/-! What every move keeps whatever the state: the still part, the queue, the latches and pointers, the links but for
frames added to transmit lists, the bounds of the Fault Unit, and the ranges of the records. -/

open Sys2Proof Sys2Proof.Machine

namespace Sys2Proof.Proofs

/-- Every record of the pool is in range (R23). -/
abbrev PoolInRange (s : State) : Prop :=
  ∀ r ∈ s.records, RecordSound r

/-- `Moves P s b`: the moves of `Delivers` without their conditions on offers; what holds of every `Moves` holds of an
operation on any state, sound or not. -/
inductive Moves (P : Prop) : State → State → Prop where
  | refl (s : State) : Moves P s s
  | trans {a b c : State} : Moves P a b → Moves P b c → Moves P a c
  | hand (s : State) (l : LinkNo) (n : Nat) (q : Queued) (hcredit : q.frame ≠ .credit)
      (hfits : FrameFits s.records q.frame) : Moves P s (s.handOver l n q)
  | report (s : State) (r : FaultRecord) (marked : Bool) : Moves P s (s.report r marked)
  | target (s : State) (t : TargetNo) (g : Target) : Moves P s (s.withTarget t g)
  | pool (s : State) (rs : List Record) (h : P → PoolInRange s → ∀ r ∈ rs, RecordSound r) : Moves P s (s.setRecords rs)

namespace Moves

variable {P : Prop}

/-! ## Every operation is made of loose moves -/

theorem post (s : State) (l : LinkNo) {f : OutFrame} (hcredit : f ≠ .credit) (hfits : FrameFits s.records f) :
    Moves P s (s.post l f) :=
  .hand s l _ _ hcredit hfits

theorem recordSound_of_offer {r : Record} (m : Option OfferMark) (h : RecordSound r) :
    RecordSound { r with offer := m } := h

theorem recordSound_fold {r : Record} (n : Nat) {p : List Word} (o : Origin) (hp : p.length ≤ 2)
    (h : RecordSound r) : RecordSound (r.fold n p o) := by
  unfold Record.fold
  by_cases hmode : r.mode = .count
  · simp only [RecordSound, hmode, if_pos, Config.maxCount, Option.getD_some] at h ⊢
    obtain ⟨⟨hlow, hhigh, hnone⟩, hlength⟩ := h
    exact ⟨⟨by omega, by omega, hnone⟩, hlength⟩
  · simp only [RecordSound, hmode, if_neg, not_false_eq_true] at h ⊢
    exact ⟨h.1, hp⟩

/-- A change of the records of one slot. -/
theorem changeRecord (s : State) (n : SlotNo) {f : Record → Record}
    (h : P → PoolInRange s → ∀ r ∈ s.records, RecordSound (f r)) : Moves P s (s.changeRecord n f) := by
  refine .pool s _ fun hP hs r hr => ?_
  obtain ⟨x, hx, rfl⟩ := List.mem_map.1 hr
  split
  · exact h hP hs x hx
  · exact hs x hx

theorem freeRecord (s : State) (n : SlotNo) : Moves P s (s.freeRecord n) :=
  .pool s _ fun _ hs r hr => hs r (List.mem_of_mem_filter hr)

theorem markOffered (s : State) (t : TargetNo) (r : Record) : Moves P s (Proofs.markOffered s t r) :=
  (changeRecord s r.slot fun _ hs x hx => recordSound_of_offer _ (hs x hx)).trans (.target ..)

theorem reexamine (s : State) (t : TargetNo) : Moves P s (s.reexamine t) := by
  rcases State.reexamine_cases s t with h | ⟨r, -, hhead, h⟩ <;> rw [h]
  · exact .refl s
  · obtain ⟨hr, -, -⟩ := State.eligibleHead_some hhead
    refine (markOffered s t r).trans (post _ _ OutFrame.noConfusion (.inr ?_))
    exact ⟨_, List.mem_map_of_mem hr, _, by rw [if_pos rfl]; rfl⟩

theorem notify (s : State) (t : TargetNo) (level : Level) : Moves P s (s.notify t level) := by
  rcases State.notify_cases s t level with h | h | ⟨-, -, h⟩ <;> rw [h]
  · exact .refl s
  · exact reexamine s t
  · exact (Moves.target s t _).trans (post _ (targetLink t) (f := .wake level) OutFrame.noConfusion
      (Delivers.fits_of_length_le_two one_le_two))

/-- An arrival or twin is folded into a record of the pool `rs`. -/
theorem setRecords_foldInto (s : State) {rs : List Record} (hrs : P → PoolInRange s → ∀ r ∈ rs, RecordSound r)
    (r : Record) (n : Nat) {p : List Word} (o : Origin) (hp : P → PoolInRange s → p.length ≤ 2) :
    Moves P s ((s.setRecords rs).foldInto r n p o) := by
  have hfold : Moves P s ((s.setRecords rs).changeRecord r.slot fun x => x.fold n p o) := by
    refine .pool s _ fun hP hs x hx => ?_
    obtain ⟨y, hy, rfl⟩ := List.mem_map.1 hx
    split
    · exact recordSound_fold n o (hp hP hs) (hrs hP hs y hy)
    · exact hrs hP hs y hy
  unfold State.foldInto
  dsimp only
  split
  · exact hfold
  · exact hfold.trans (.report ..)

theorem twin_mem {s : State} {r w : Record} (h : s.twin r = some w) : w ∈ s.records := by
  unfold State.twin at h
  split at h
  · cases h
  · exact List.mem_of_find?_eq_some h

theorem withdraw (s : State) (r : Record) : Moves P s (s.withdraw r) := by
  have hreturned : P → PoolInRange s → ∀ y ∈ (s.changeRecord r.slot fun x => { x with offer := none }).records,
      RecordSound y := by
    intro hP hs y hy
    obtain ⟨x, hx, rfl⟩ := List.mem_map.1 hy
    split
    · exact recordSound_of_offer none (hs x hx)
    · exact hs x hx
  unfold State.withdraw
  dsimp only
  split
  · exact .pool s _ hreturned
  · next w hw =>
    exact (setRecords_foldInto s (fun hP hs x hx => hreturned hP hs x (List.mem_of_mem_filter hx)) r _ _
      (fun hP hs => (hs w (twin_mem hw)).2)).trans (notify _ _ _)

end Moves

/-- A record after a CANCEL is one that was there, but for its offer mark (R36). -/
theorem exists_of_mem_cancelRecords {t : TargetNo} {i : Index} {rs : List Record} {r : Record}
    (h : r ∈ cancelRecords t i rs) : ∃ x ∈ rs, ∃ m, r = { x with offer := m } ∧ (m.isSome = x.offer.isSome) := by
  obtain ⟨x, hx, rfl⟩ := List.mem_map.1 h
  refine ⟨x, List.mem_of_mem_filter hx, ?_⟩
  split
  · exact ⟨_, rfl, Option.isSome_map⟩
  · exact ⟨_, rfl, rfl⟩

theorem Delivers.moves {P : Leave} {s b : State} (h : Delivers P s b) : Moves P.payload s b := by
  induction h with
  | refl s => exact .refl s
  | trans _ _ hab hbc => exact hab.trans hbc
  | paid _ _ _ ih => exact ih
  | hand s l n q hcredit hfits => exact .hand s l n q hcredit hfits
  | report s r marked => exact .report s r marked
  | adjust s t g _ => exact .target s t g
  | rest s t g _ _ => exact .target s t g
  | offer s t r _ _ => exact .markOffered s t r
  | close s t o r m g _ _ _ => exact (Moves.freeRecord s r.slot).trans (.target _ t g)
  | withdraw s t o r m g _ _ => exact (Moves.withdraw s r).trans (.target _ t g)
  | add s x hx =>
    refine .pool s _ fun hP hs r hr => ?_
    rcases List.mem_append.1 hr with h | h
    · exact hs r h
    · exact List.mem_singleton.1 h ▸ hx.sound hP
  | fold s n added payload o hpayload =>
    exact .changeRecord s n fun hP hs x hx => Moves.recordSound_fold added o (hpayload hP) (hs x hx)
  | cancel s t i =>
    refine .pool s _ fun _ hs r hr => ?_
    obtain ⟨x, hx, m, rfl, -⟩ := exists_of_mem_cancelRecords hr
    exact Moves.recordSound_of_offer m (hs x hx)

/-! ## What loose moves keep -/

/-- The bounds of the fault list, the lost-fault count and the raise queue (R128, R133). -/
def FaultBounds (s : State) : Prop :=
  s.faults.length ≤ 8 ∧ s.lostFaults ≤ 255 ∧ (s.raised.map Raised.event).Nodup

theorem FaultBounds.raiseEvent {s : State} (h : FaultBounds s) (e : RouterEvent) (w : Word) :
    FaultBounds (s.raiseEvent e w) := by
  obtain ⟨hfaults, hlost, hraised⟩ := h
  exact ⟨by rwa [State.raiseEvent_faults], by rwa [State.raiseEvent_lostFaults],
    State.raiseEvent_nodup s e w hraised⟩

theorem FaultBounds.report {s : State} (h : FaultBounds s) (r : FaultRecord) (marked : Bool) :
    FaultBounds (s.report r marked) := by
  obtain ⟨hfaults, hlost, hraised⟩ := h
  refine ⟨?_, ?_, ?_⟩
  · rw [State.report_faults]
    split
    · next hroom => simpa using hroom
    · exact hfaults
  · rw [State.report_lostFaults]
    split
    · exact hlost
    · exact min_le_left _ _
  · rw [State.report_raised]
    split
    · exact hraised
    · exact State.raiseEvent_nodup s _ _ hraised

/-- A report only adds to the fault list. -/
theorem report_faults_length (s : State) (r : FaultRecord) (marked : Bool) :
    s.faults.length ≤ (s.report r marked).faults.length := by
  rw [State.report_faults]
  split <;> simp

namespace Moves

variable {P : Prop} {s b : State}

theorem still (h : Moves P s b) : b.still = s.still := by
  induction h with
  | trans _ _ hab hbc => exact hbc.trans hab
  | hand s l n q _ _ => exact State.handOver_still s l n q
  | report s r marked => exact State.report_still s r marked
  | refl | target | pool => rfl

theorem apart (h : Moves P s b) : b.apart = s.apart := by
  induction h with
  | trans _ _ hab hbc => exact hbc.trans hab
  | hand s l n q _ _ => exact State.handOver_apart s l n q
  | report s r marked => exact State.report_apart s r marked
  | refl | target | pool => rfl

theorem faultBounds (h : Moves P s b) : FaultBounds s → FaultBounds b := by
  induction h with
  | trans _ _ hab hbc => exact hbc ∘ hab
  | hand s l n q _ _ => simp only [FaultBounds, State.handOver_faults, State.handOver_lostFaults,
      State.handOver_raised, imp_self]
  | report s r marked => exact fun hs => hs.report r marked
  | refl | target | pool => exact id

theorem faults_length (h : Moves P s b) : s.faults.length ≤ b.faults.length := by
  induction h with
  | trans _ _ hab hbc => exact hab.trans hbc
  | hand s l n q _ _ => rw [State.handOver_faults]
  | report s r marked => exact report_faults_length s r marked
  | refl | target | pool => exact le_rfl

theorem poolInRange (h : Moves P s b) (hP : P) : PoolInRange s → PoolInRange b := by
  induction h with
  | trans _ _ hab hbc => exact hbc ∘ hab
  | hand s l n q _ _ => exact fun hs => by rwa [PoolInRange, State.handOver_records]
  | report s r marked => exact fun hs => by rwa [PoolInRange, State.report_records]
  | pool s rs h => exact h hP
  | refl | target => exact id

/-! ## The links (R148, R196) -/

end Moves

/-- The link `k'` is `k` with frames other than CREDIT added to its transmit list, and none while it is not UP. -/
def LinkGrows (k k' : Link) : Prop :=
  ∃ extra, k' = { k with transmit := k.transmit ++ extra } ∧ (∀ q ∈ extra, q.frame ≠ .credit) ∧
    (k.state ≠ .up → extra = [])

theorem LinkGrows.refl (k : Link) : LinkGrows k k :=
  ⟨[], by rw [List.append_nil], by simp, fun _ => rfl⟩

theorem LinkGrows.trans {a b c : Link} (hab : LinkGrows a b) (hbc : LinkGrows b c) : LinkGrows a c := by
  obtain ⟨x, rfl, hx, hxup⟩ := hab
  obtain ⟨y, rfl, hy, hyup⟩ := hbc
  refine ⟨x ++ y, by rw [List.append_assoc], fun q hq => ?_, fun h => by rw [hxup h, hyup h]; rfl⟩
  exact (List.mem_append.1 hq).elim (hx q) (hy q)

/-- What handing a frame over does to each link (R148). -/
theorem handOver_link (s : State) (l : LinkNo) (n : Nat) (q : Queued) (m : LinkNo) :
    (s.handOver l n q).links[m] =
      if m = l ∧ s.isUp l = true ∧ s.links[l].session = n then
        { s.links[m] with transmit := s.links[m].transmit ++ [q] }
      else s.links[m] := by
  by_cases h : s.isUp l = true ∧ s.links[l].session = n
  · rw [State.handOver_present q h.1 h.2]
    by_cases hm : m = l
    · subst hm
      rw [State.withLink_self, if_pos ⟨rfl, h⟩]
    · rw [State.withLink_ne _ _ hm, if_neg (fun h => hm h.1)]
  · rw [State.handOver_discarded q (by simpa only [not_and_or, Bool.not_eq_true] using h),
      if_neg (fun hc => h hc.2)]

theorem isUp_iff {s : State} {l : LinkNo} : s.isUp l = true ↔ s.links[l].state = .up :=
  beq_iff_eq

theorem handOver_grows (s : State) (l : LinkNo) (n : Nat) {q : Queued} (hcredit : q.frame ≠ .credit)
    (m : LinkNo) : LinkGrows s.links[m] (s.handOver l n q).links[m] := by
  rw [handOver_link]
  split
  · next h =>
    obtain ⟨rfl, hup, -⟩ := h
    exact ⟨[q], rfl, by simpa using hcredit, fun h => absurd (isUp_iff.1 hup) h⟩
  · exact .refl _

theorem offerFrame_body_length (r : Record) (tag : Byte) :
    ((OutFrame.offer (r.offerFrame tag)).body 0).length = 8 + 4 * r.payload.length := by
  simp [OutFrame.body, OfferFrame.body, Record.offerFrame, bytesOf_length]
  omega

theorem FrameFits.length_le {records : List Record} {f : OutFrame} (h : FrameFits records f)
    (hs : ∀ r ∈ records, RecordSound r) : (f.body 0).length ≤ 48 := by
  rcases h with h | ⟨r, hr, tag, rfl⟩
  · exact h
  · obtain ⟨-, hpayload⟩ := hs r hr
    rw [offerFrame_body_length]
    omega

/-- Every frame of the link's transmit list is within the 48 bytes of a body (R196). -/
def TransmitFits (k : Link) : Prop :=
  ∀ q ∈ k.transmit, (q.frame.body 0).length ≤ 48

namespace Moves

variable {P : Prop} {s b : State}

theorem link_grows (h : Moves P s b) (l : LinkNo) : LinkGrows s.links[l] b.links[l] := by
  induction h with
  | trans _ _ hab hbc => exact hab.trans hbc
  | hand s m n q hcredit _ => exact handOver_grows s m n hcredit l
  | report s r marked => exact State.report_links s r marked ▸ .refl _
  | refl | target | pool => exact .refl _

theorem transmitFits (h : Moves P s b) (hP : P) (l : LinkNo) (hs : PoolInRange s) :
    TransmitFits s.links[l] → TransmitFits b.links[l] := by
  induction h with
  | trans hab _ ihab ihbc => exact ihbc (hab.poolInRange hP hs) ∘ ihab hs
  | hand s m n q _ hfits =>
    rw [handOver_link]
    split
    · intro hk x hx
      rcases List.mem_append.1 hx with hx | hx
      · exact hk x hx
      · exact List.mem_singleton.1 hx ▸ hfits.length_le hs
    · exact id
  | report s r marked => exact State.report_links s r marked ▸ id
  | refl | target | pool => exact id

end Moves

theorem Moves.isUp {P : Prop} {s b : State} (h : Moves P s b) (l : LinkNo) : b.isUp l = s.isUp l := by
  obtain ⟨extra, hlink, -⟩ := h.link_grows l
  unfold State.isUp
  rw [hlink]

/-! ## Stacks (R80) -/

theorem markOffered_target (s : State) (t : TargetNo) (r : Record) (u : TargetNo) :
    (markOffered s t r).targets[u].stack = s.targets[u].stack ∧
      (s.targets[t].state ≠ .offline →
        ((markOffered s t r).targets[u].state = .offline ↔ s.targets[u].state = .offline)) := by
  unfold markOffered
  by_cases hu : u = t
  · subst hu
    rw [State.withTarget_self]
    exact ⟨rfl, fun h => iff_of_false TargetState.noConfusion h⟩
  · rw [State.withTarget_ne _ _ hu]
    exact ⟨rfl, fun _ => Iff.rfl⟩

theorem reexamine_target (s : State) (t u : TargetNo) :
    (s.reexamine t).targets[u].stack = s.targets[u].stack ∧
      ((s.reexamine t).targets[u].state = .offline ↔ s.targets[u].state = .offline) := by
  rcases State.reexamine_cases s t with h | ⟨r, hready, -, h⟩ <;> rw [h]
  · exact ⟨rfl, Iff.rfl⟩
  · obtain ⟨hstack, hoffline⟩ := markOffered_target s t r u
    rw [State.makeOffer, State.post_targets]
    exact ⟨hstack, hoffline (by rw [hready]; exact TargetState.noConfusion)⟩

theorem notify_target_fixed (s : State) (t : TargetNo) (level : Level) (u : TargetNo) :
    (s.notify t level).targets[u].stack = s.targets[u].stack ∧
      ((s.notify t level).targets[u].state = .offline ↔ s.targets[u].state = .offline) := by
  rcases State.notify_cases s t level with h | h | ⟨hasleep, -, h⟩ <;> rw [h]
  · exact ⟨rfl, Iff.rfl⟩
  · exact reexamine_target s t u
  · rw [State.sendWake, State.post_targets, State.modTarget_eq]
    by_cases hu : u = t
    · subst hu
      rw [State.withTarget_self, hasleep]
      exact ⟨rfl, iff_of_false TargetState.noConfusion TargetState.noConfusion⟩
    · rw [State.withTarget_ne _ _ hu]
      exact ⟨rfl, Iff.rfl⟩

/-- A withdrawal keeps every stack, and makes no target OFFLINE and none of those not. -/
theorem withdraw_target_fixed (s : State) (r : Record) (u : TargetNo) :
    (s.withdraw r).targets[u].stack = s.targets[u].stack ∧
      ((s.withdraw r).targets[u].state = .offline ↔ s.targets[u].state = .offline) := by
  unfold State.withdraw
  dsimp only
  split
  · exact ⟨rfl, Iff.rfl⟩
  · next w _ =>
    have hnotify := notify_target_fixed (((s.changeRecord r.slot fun x => { x with offer := none }).freeRecord
      w.slot).foldInto r (w.count.getD 0) w.payload w.origin) r.target r.level u
    rw [foldInto_targets] at hnotify
    exact hnotify

/-- What holds of each target after a change of one holds of that one and of the others. -/
theorem withTarget_forall {s : State} {t : TargetNo} {g : Target} {C : TargetNo → Target → Prop} {u : TargetNo}
    (hg : u = t → C t g) (hs : u ≠ t → C u s.targets[u]) : C u (s.withTarget t g).targets[u] := by
  by_cases hu : u = t
  · subst hu
    rw [State.withTarget_self]
    exact hg rfl
  · rw [State.withTarget_ne _ _ hu]
    exact hs hu

namespace Delivers

variable {P : Leave} {s b : State}

/-- Only a claim makes a stack deeper (R80). -/
theorem stack_length (h : Delivers P s b) {t : TargetNo} (hclaim : ¬ P.claim t) :
    b.targets[t].stack.length ≤ s.targets[t].stack.length := by
  induction h with
  | refl | add | fold | cancel => exact le_rfl
  | trans _ _ hab hbc => exact (hbc hclaim).trans (hab hclaim)
  | paid _ _ _ ih => exact ih hclaim
  | hand s m n q => rw [State.handOver_targets]
  | report s r marked => rw [State.report_targets]
  | adjust s u g h =>
    exact withTarget_forall (C := fun v x => x.stack.length ≤ s.targets[v].stack.length)
      (fun _ => h.stack.length_le) (fun _ => le_rfl)
  | rest s u g _ h =>
    exact withTarget_forall (C := fun v x => x.stack.length ≤ s.targets[v].stack.length)
      (fun _ => h.stack.length_le) (fun _ => le_rfl)
  | offer s u r _ _ => rw [(markOffered_target s u r t).1]
  | close s u o r m g _ h hheld =>
    exact withTarget_forall (s := s.freeRecord r.slot) (C := fun v x => x.stack.length ≤ s.targets[v].stack.length)
      (fun htu => (hheld.resolve_left (htu ▸ hclaim)).length_le) (fun _ => le_rfl)
  | withdraw s u o r m g _ h =>
    exact withTarget_forall (s := s.withdraw r) (C := fun v x => x.stack.length ≤ s.targets[v].stack.length)
      (fun _ => h.stack.length_le) (fun _ => (congrArg List.length (withdraw_target_fixed s r t).1).le)

end Delivers

/-! ## Links in agreement with their targets (R95, R141, R150) -/

/-- A change within a state and session of a link keeps the agreement. -/
theorem LinkFits.keep {x : Bool} {y : Vector (Option PassedEvent) 12} {s b : State} {l : LinkNo}
    (hs : LinkFits x y s l) (hsound : LinkSound b.links[l]) (hstate : b.links[l].state = s.links[l].state)
    (hsession : b.links[l].session = s.links[l].session)
    (hevent : ∀ f, s.links[l].ingress.find? InFrame.isEvent = some f →
      b.links[l].ingress.find? InFrame.isEvent = some f)
    (htarget : ∀ t, l = targetLink t → (b.targets[t].state = .offline ↔ s.targets[t].state = .offline)) :
    LinkFits x y b l := by
  obtain ⟨-, hdown, hoffline, hevents⟩ := hs
  have hup : b.isUp l = s.isUp l := by
    unfold State.isUp
    rw [hstate]
  refine ⟨hsound, by rw [hstate]; exact hdown, fun t ht => ?_, fun n hn p hp => ?_⟩
  · rw [htarget t ht, hup]
    exact hoffline t ht
  · obtain ⟨hload, hle, hfind⟩ := hevents n hn p hp
    refine ⟨hload, by rw [hsession]; exact hle, fun hisUp heq => hevent _ (hfind ?_ ?_)⟩
    · rwa [hup] at hisUp
    · rwa [hsession] at heq

/-- A link that is not UP has ended its session, and its target is OFFLINE. -/
theorem LinkFits.closed {x : Bool} {y : Vector (Option PassedEvent) 12} {s b : State} {l : LinkNo}
    (hs : LinkFits x y s l) (hsound : LinkSound b.links[l]) (hup : b.links[l].state ≠ .up)
    (hdown : b.links[l].state ≠ .down) (hwas : s.links[l].state ≠ .down)
    (hsession : b.links[l].session = s.links[l].session)
    (htarget : ∀ t, l = targetLink t → b.targets[t].state = .offline) : LinkFits x y b l := by
  obtain ⟨-, hdown', -, hevents⟩ := hs
  have hisUp : b.isUp l = false := by simpa [State.isUp] using hup
  refine ⟨hsound, iff_of_false hdown fun hload => hwas (hdown'.2 hload), fun t ht => iff_of_true (htarget t ht) hisUp,
    fun n hn p hp => ?_⟩
  obtain ⟨hload, hle, -⟩ := hevents n hn p hp
  exact ⟨hload, by rw [hsession]; exact hle, fun h => absurd (hisUp.symm.trans h) Bool.noConfusion⟩

/-- A link that has just started a session has a new session number, and its target is not OFFLINE. -/
theorem LinkFits.started {x : Bool} {y : Vector (Option PassedEvent) 12} {s b : State} {l : LinkNo}
    (hs : LinkFits x y s l) (hsound : LinkSound b.links[l]) (hup : b.links[l].state = .up)
    (hwas : s.links[l].state ≠ .down) (hsession : b.links[l].session = s.links[l].session + 1)
    (htarget : ∀ t, l = targetLink t → b.targets[t].state ≠ .offline) : LinkFits x y b l := by
  obtain ⟨-, hdown', -, hevents⟩ := hs
  have hisUp : b.isUp l = true := isUp_iff.2 hup
  refine ⟨hsound, iff_of_false (by rw [hup]; exact LinkState.noConfusion) fun hload => hwas (hdown'.2 hload),
    fun t ht => iff_of_false (htarget t ht) (by rw [hisUp]; exact Bool.noConfusion), fun n hn p hp => ?_⟩
  obtain ⟨hload, hle, -⟩ := hevents n hn p hp
  exact ⟨hload, by omega, fun _ heq => by omega⟩

theorem LinkGrows.sound {k k' : Link} (h : LinkGrows k k') (hk : LinkSound k) : LinkSound k' := by
  obtain ⟨extra, rfl, hcredit, hidle⟩ := h
  obtain ⟨hingress, herrors, hupErrors, hone, htraining, hquiet, hempty⟩ := hk
  have hnone : (extra.filter fun q => q.frame == .credit) = [] :=
    List.filter_eq_nil_iff.2 fun q hq => by simpa using hcredit q hq
  refine ⟨hingress, herrors, hupErrors, ?_, htraining, hquiet, fun hup => ?_⟩
  · rw [List.filter_append, hnone, List.append_nil]
    exact hone
  · obtain ⟨hin, hout, hgrant⟩ := hempty hup
    exact ⟨hin, by rw [hidle hup, List.append_nil]; exact hout, hgrant⟩

/-- Frames handed over, and changes of targets that are not to or from OFFLINE, keep the agreement. -/
theorem LinkFits.of_grows {x : Bool} {y : Vector (Option PassedEvent) 12} {s b : State} {l : LinkNo}
    (hgrows : LinkGrows s.links[l] b.links[l])
    (htarget : ∀ t, l = targetLink t → (b.targets[t].state = .offline ↔ s.targets[t].state = .offline))
    (hs : LinkFits x y s l) : LinkFits x y b l := by
  have hsound := hgrows.sound hs.1
  obtain ⟨extra, hlink, -⟩ := hgrows
  exact hs.keep hsound (by rw [hlink]) (by rw [hlink]) (by rw [hlink]; exact fun _ => id) htarget

/-- Moves take a target to OFFLINE or out of it only where they may leave its link. -/
theorem Delivers.offline_iff {P : Leave} {s b : State} (h : Delivers P s b) {t : TargetNo}
    (hleft : ¬ P.link (targetLink t)) : b.targets[t].state = .offline ↔ s.targets[t].state = .offline := by
  induction h with
  | refl | add | fold | cancel => exact Iff.rfl
  | trans _ _ hab hbc => exact (hbc hleft).trans (hab hleft)
  | paid _ _ _ ih => exact ih hleft
  | hand s m n q => rw [State.handOver_targets]
  | report s r marked => rw [State.report_targets]
  | adjust s u g h =>
    exact withTarget_forall (C := fun v x => v = t → (x.state = .offline ↔ s.targets[t].state = .offline))
      (fun _ hut => hut ▸ h.offline) (fun _ _ => Iff.rfl) rfl
  | rest s u g _ h =>
    refine withTarget_forall (C := fun v x => v = t → (x.state = .offline ↔ s.targets[t].state = .offline))
      (fun _ hut => ?_) (fun _ _ => Iff.rfl) rfl
    subst hut
    exact ⟨h.awake.resolve_left hleft, h.offline⟩
  | offer s u r hready _ => exact (markOffered_target s u r t).2 (by rw [hready]; exact TargetState.noConfusion)
  | close s u o r m g _ h _ =>
    refine withTarget_forall (s := s.freeRecord r.slot)
      (C := fun v x => v = t → (x.state = .offline ↔ s.targets[t].state = .offline)) (fun _ hut => ?_)
      (fun _ _ => Iff.rfl) rfl
    subst hut
    exact ⟨h.awake.resolve_left hleft, h.offline⟩
  | withdraw s u o r m g _ h =>
    refine withTarget_forall (s := s.withdraw r)
      (C := fun v x => v = t → (x.state = .offline ↔ s.targets[t].state = .offline)) (fun _ hut => ?_)
      (fun _ _ => (withdraw_target_fixed s r t).2) rfl
    subst hut
    exact ⟨h.awake.resolve_left hleft, h.offline⟩

/-- Moves keep the agreement of links with their targets, but where they may leave a link. -/
theorem Delivers.linkFits {P : Leave} {s b : State} (h : Delivers P s b) {l : LinkNo} (hleft : ¬ P.link l)
    {x : Bool} {y : Vector (Option PassedEvent) 12} : LinkFits x y s l → LinkFits x y b l := by
  refine fun hs => .of_grows (h.moves.link_grows l) (fun t ht => h.offline_iff ?_) hs
  rwa [← ht]

end Sys2Proof.Proofs
end

section
/-! What a session end does to its link and its target: whatever target frame is taken first, the link is left with
nothing in its lists, and the target OFFLINE (R91, R121, R123, R147). -/

open Sys2Proof Sys2Proof.Machine

namespace Sys2Proof.Proofs

theorem targetLink_injective {t u : TargetNo} (h : targetLink t = targetLink u) : t = u := by
  revert t u
  decide

theorem post_link_ne (s : State) {l m : LinkNo} (f : OutFrame) (h : l ≠ m) : (s.post m f).links[l] = s.links[l] := by
  rw [State.post, handOver_link, if_neg fun hlm => h hlm.1]

/-- A placement that is reported to another target than `t`, or while `t` is OFFERED, sends nothing on the link of
`t`. -/
theorem notify_link (s : State) {t : TargetNo} (u : TargetNo) (level : Level)
    (hoffered : s.targets[t].state = .offered) : (s.notify u level).links[targetLink t] = s.links[targetLink t] := by
  by_cases hu : t = u
  · subst hu
    rw [State.notify_inert] <;> rw [hoffered] <;> decide
  · have hne : targetLink t ≠ targetLink u := fun h => hu (targetLink_injective h)
    rcases State.notify_cases s u level with hn | hn | ⟨-, -, hn⟩ <;> rw [hn]
    · rcases State.reexamine_cases s u with hr | ⟨r, -, -, hr⟩ <;> rw [hr]
      exact post_link_ne _ _ hne
    · exact post_link_ne _ _ hne

theorem foldInto_links (s : State) (r : Record) (n : Nat) (p : List Word) (o : Origin) :
    (s.foldInto r n p o).links = s.links := by
  unfold State.foldInto
  dsimp only
  split
  · rfl
  · exact State.report_links ..

theorem withdraw_link (s : State) {t : TargetNo} (r : Record) (hoffered : s.targets[t].state = .offered) :
    (s.withdraw r).links[targetLink t] = s.links[targetLink t] := by
  unfold State.withdraw
  dsimp only
  split
  · rfl
  · next w _ =>
    rw [notify_link _ _ _ (by rw [foldInto_targets]; exact hoffered), foldInto_links]
    rfl

theorem reportSome_links (s : State) (r : Option FaultRecord) : (reportSome s r).links = s.links := by
  cases r with
  | none => rfl
  | some r => exact State.report_links ..

theorem reportSome_targets (s : State) (r : Option FaultRecord) : (reportSome s r).targets = s.targets := by
  cases r with
  | none => rfl
  | some r => exact State.report_targets ..

theorem endOffer_link (s : State) (t : TargetNo) :
    (s.endOffer t).links[targetLink t] = s.links[targetLink t] := by
  unfold State.endOffer
  split
  · next o r m hoffer =>
    obtain ⟨hstate, -⟩ := State.currentOffer_some hoffer
    split
    · rfl
    · exact withdraw_link s r hstate
  · rfl

/-- The Delivery Controller's part of a session end sends nothing on the link. -/
theorem targetSessionEnd_link (s : State) (t : TargetNo) :
    (s.targetSessionEnd t).links[targetLink t] = s.links[targetLink t] := by
  by_cases h : s.targets[t].state = .offline
  · rw [State.targetSessionEnd, if_pos h]
  · rw [targetSessionEnd_eq h, reportSome_links]
    exact endOffer_link s t

theorem clearSession_link (s : State) (l : LinkNo) :
    (s.clearSession l).links[l] = { s.links[l] with ingress := [], transmit := [], grant := 4 } := by
  cases h : linkTarget l with
  | none =>
    rw [clearSession_source h]
    exact State.withLink_self ..
  | some t =>
    obtain rfl := linkTarget_eq_some.1 h
    rw [clearSession_target, targetSessionEnd_link]
    exact State.withLink_self ..

/-- Taking the target frame in progress changes the lists and the grant count of the link alone. -/
theorem takeInProgress_link (s : State) (t : TargetNo) (l : LinkNo) : ∃ ingress transmit grant,
    (s.takeInProgress t).links[l] =
      { s.links[l] with ingress := ingress, transmit := transmit, grant := grant } := by
  unfold State.takeInProgress
  split
  · next f hf =>
    obtain ⟨hoffline, -⟩ := State.targetFrame_some hf
    obtain ⟨extra, hlink, -⟩ :=
      (Delivers.takeTargetFrame (P := .any) hoffline f fun _ _ => trivial).moves.link_grows l
    rw [State.finishTargetFrame, State.finishFrame_eq]
    by_cases hl : l = targetLink t
    · subst hl
      rw [State.withLink_self, hlink]
      exact ⟨_, _, _, rfl⟩
    · rw [State.withLink_ne _ _ hl, hlink]
      exact ⟨_, _, _, rfl⟩
  · exact ⟨_, _, _, rfl⟩

/-- The link after a session end (R147). -/
theorem sessionEnd_link (s : State) (l : LinkNo) :
    (s.sessionEnd l).links[l] = { s.links[l] with ingress := [], transmit := [], grant := 4 } := by
  cases h : linkTarget l with
  | none => rw [State.sessionEnd_source s h, clearSession_link]
  | some t =>
    obtain rfl := linkTarget_eq_some.1 h
    obtain ⟨ingress, transmit, grant, hlink⟩ := takeInProgress_link s t (targetLink t)
    rw [State.sessionEnd_target, clearSession_link, hlink]

/-- The stack is emptied, or the target was OFFLINE already (R91). -/
theorem targetSessionEnd_stack {s : State} {t : TargetNo} (h : s.targets[t].state ≠ .offline) :
    (s.targetSessionEnd t).targets[t].stack = [] := by
  rw [targetSessionEnd_eq h, reportSome_targets, State.withTarget_self]
  rfl

theorem finishFrame_targets (s : State) (l : LinkNo) (p : InFrame → Bool) :
    (s.finishFrame l p).targets = s.targets := rfl

theorem takeInProgress_offline (s : State) (t : TargetNo) :
    (s.takeInProgress t).targets[t].state = .offline ↔ s.targets[t].state = .offline := by
  unfold State.takeInProgress
  split
  · next f hf =>
    obtain ⟨hoffline, -⟩ := State.targetFrame_some hf
    exact (Delivers.takeTargetFrame (P := { Leave.any with link := fun _ => False }) hoffline f
      fun _ _ => trivial).offline_iff id
  · exact Iff.rfl

/-- A session end makes no stack deeper, though it may take a CLAIM first. -/
theorem sessionEnd_stack_length (s : State) (t : TargetNo) :
    ((s.sessionEnd (targetLink t)).targets[t].stack).length ≤ s.targets[t].stack.length := by
  rw [State.sessionEnd_target, clearSession_target]
  by_cases hoffline : s.targets[t].state = .offline
  · have hnone : s.takeInProgress t = s := by
      rw [State.takeInProgress, State.targetFrame, if_pos hoffline]
    rw [hnone, State.targetSessionEnd]
    exact (if_pos (c := (sessionCleared s (targetLink t)).targets[t].state = .offline) hoffline) ▸ le_rfl
  · rw [targetSessionEnd_stack]
    · exact Nat.zero_le _
    · exact fun h => hoffline ((takeInProgress_offline s t).1 h)

end Sys2Proof.Proofs
end

section
/-! What the operations of the Link Controllers and the Management Engine do, as a sequence of moves: those of the
Delivery Controller, changes of one link, session starts, and requests that leave the queue. -/

open Sys2Proof Sys2Proof.Machine

namespace Sys2Proof.Proofs

/-! ## The moves of the links -/

/-- No received frame that waits carries more than two payload words (R42). -/
def IngressFits (k : Link) : Prop :=
  ∀ f ∈ k.ingress, f.payloadWords ≤ 2

/-- What `P'` may leave and `P` may not is in order again in `b`. -/
structure Settled (P P' : Leave) (s b : State) : Prop where
  payload : P.payload → P'.payload
  claim : ∀ t, P'.claim t → P.claim t ∨ b.targets[t].stack.length ≤ s.targets[t].stack.length
  overdue : ∀ t l, P'.overdue t l → P.overdue t l ∨ (NotDue s t l → NotDue b t l)
  link : ∀ l, P'.link l → P.link l ∨ ∀ x y, LinkFits x y s l → LinkFits x y b l

/-- The link `l` may become `k`: its record stays, its frames stay in range, and it leaves UP or its session only when
no request of it is queued and its target is OFFLINE (R147, R171). -/
structure LinkMoves (P : Leave) (s : State) (l : LinkNo) (k : Link) : Prop where
  record : k.record = s.links[l].record
  transmit : TransmitFits s.links[l] → TransmitFits k
  ingress : IngressFits s.links[l] → IngressFits k
  live : s.links[l].state = .up → (∃ r ∈ s.queue, r.link = l) →
    k.state = .up ∧ k.session = s.links[l].session
  dark : s.links[l].state = .up → k.state ≠ .up → ∀ t, l = targetLink t → s.targets[t].state = .offline
  fits : P.link l ∨ ∀ x y, LinkFits x y s l → LinkFits x y (s.withLink l k) l

/-- `Proceeds P s b`: the state `b` comes from `s` by moves of the Delivery Controller, the Link Controllers and the
Management Engine, which may leave what `P` says. -/
inductive Proceeds : Leave → State → State → Prop where
  | trans {P : Leave} {a b c : State} : Proceeds P a b → Proceeds P b c → Proceeds P a c
  | settled {P : Leave} (P' : Leave) {s b : State} (h : Proceeds P' s b) (hP : Settled P P' s b) : Proceeds P s b
  | delivers {P : Leave} {s b : State} (h : Delivers P s b) : Proceeds P s b
  | link {P : Leave} (s : State) (l : LinkNo) (k : Link) (h : LinkMoves P s l k) : Proceeds P s (s.withLink l k)
  | start {P : Leave} (s : State) (t : TargetNo) (k : Link) (h : LinkMoves P s (targetLink t) k)
      (hlink : P.link (targetLink t)) (hdue : ∀ l, P.overdue t l) (hup : k.state = .up)
      (hoffline : s.links[targetLink t].state = .up → s.targets[t].state = .offline) :
      Proceeds P s ((s.withLink (targetLink t) k).withTarget t Target.fresh)
  | queue {P : Leave} (s : State) (q : List Request) (h : q.Sublist s.queue) : Proceeds P s { s with queue := q }
  | draws {P : Leave} (s : State) (n : Nat) : Proceeds P s { s with draws := n }

/-! ## Changes of a link in its session -/

/-- A change of a link that is not about sessions keeps the agreement with its target. -/
theorem linkFits_withLink {s : State} {l : LinkNo} {k : Link} (hstate : k.state = s.links[l].state)
    (hsession : k.session = s.links[l].session) (hsound : LinkSound s.links[l] → LinkSound k)
    (hevent : ∀ f, s.links[l].ingress.find? InFrame.isEvent = some f → k.ingress.find? InFrame.isEvent = some f) :
    ∀ x y, LinkFits x y s l → LinkFits x y (s.withLink l k) l := by
  intro x y hs
  have hk := State.withLink_self s l k
  exact hs.keep (by rw [hk]; exact hsound hs.1) (by rw [hk]; exact hstate) (by rw [hk]; exact hsession)
    (by rw [hk]; exact hevent) fun _ _ => Iff.rfl

variable {P : Leave}

/-- A change within a session, that sends only frames of at most 48 bytes. -/
theorem LinkMoves.of_session {s : State} {l : LinkNo} {k : Link} (hstate : k.state = s.links[l].state)
    (hsession : k.session = s.links[l].session) (hrecord : k.record = s.links[l].record)
    (htransmit : ∀ q ∈ k.transmit, q ∈ s.links[l].transmit ∨ (q.frame.body 0).length ≤ 48)
    (hingress : ∀ f ∈ k.ingress, f ∈ s.links[l].ingress ∨ f.payloadWords ≤ 2)
    (hfits : P.link l ∨ (LinkSound s.links[l] → LinkSound k) ∧
      ∀ f, s.links[l].ingress.find? InFrame.isEvent = some f → k.ingress.find? InFrame.isEvent = some f) :
    LinkMoves P s l k where
  record := hrecord
  transmit := fun h q hq => (htransmit q hq).elim (h q) id
  ingress := fun h f hf => (hingress f hf).elim (h f) id
  live := fun hup _ => ⟨hstate.trans hup, hsession⟩
  dark := fun hup hnot => absurd (hstate.trans hup) hnot
  fits := hfits.imp_right fun ⟨hsound, hevent⟩ => linkFits_withLink hstate hsession hsound hevent

theorem finished_transmit {k : Link} {q : Queued} (h : q ∈ k.finished.transmit) :
    q ∈ k.transmit ∨ (q.frame.body 0).length ≤ 48 := by
  unfold Link.finished at h
  dsimp only at h
  split at h
  · exact .inl h
  · rcases List.mem_append.1 h with h | h
    · exact .inl h
    · exact .inr (List.mem_singleton.1 h ▸ (by decide))

/-- A link in UP with one more frame finished, and no more frames in its buffer (R151, R152). -/
theorem finished_sound {k : Link} {ingress : List InFrame} (hup : k.state = .up)
    (hlength : ingress.length ≤ k.ingress.length) (hk : LinkSound k) :
    LinkSound { k with ingress := ingress }.finished := by
  obtain ⟨hingress, herrors, hupErrors, hone, htraining, hquiet, -⟩ := hk
  refine ⟨hlength.trans hingress, herrors, hupErrors, ?_, htraining, hquiet, fun h => absurd hup h⟩
  unfold Link.finished
  dsimp only
  split
  · exact hone
  · next hnone =>
    have hnone' : (k.transmit.filter fun q => q.frame == .credit) = [] := by
      rw [List.filter_eq_nil_iff]
      simpa using hnone
    rw [List.filter_append, hnone']
    exact le_rfl

/-- Taking out a frame of another kind leaves the oldest EVENT frame. -/
theorem find_eraseP {p : InFrame → Bool} (hp : ∀ f, p f = true → f.isEvent = false) (ingress : List InFrame) :
    (ingress.eraseP p).find? InFrame.isEvent = ingress.find? InFrame.isEvent := by
  induction ingress with
  | nil => rfl
  | cons f fs ih =>
    by_cases hf : p f = true
    · rw [List.eraseP_cons_of_pos hf, List.find?_cons_of_neg (by simp [hp f hf])]
    · rw [List.eraseP_cons_of_neg hf, List.find?_cons, List.find?_cons, ih]

/-- No request of the link is queued, and its target is OFFLINE. -/
def Ended (s : State) (l : LinkNo) : Prop :=
  (∀ r ∈ s.queue, r.link ≠ l) ∧ ∀ t, l = targetLink t → s.targets[t].state = .offline

/-- A change of a link that is not UP, or whose session has ended. -/
theorem LinkMoves.of_ended {s : State} {l : LinkNo} {k : Link}
    (hend : s.links[l].state = .up → Ended s l) (hrecord : k.record = s.links[l].record)
    (htransmit : ∀ q ∈ k.transmit, q ∈ s.links[l].transmit ∨ (q.frame.body 0).length ≤ 48)
    (hingress : ∀ f ∈ k.ingress, f ∈ s.links[l].ingress ∨ f.payloadWords ≤ 2)
    (hfits : P.link l ∨ ∀ x y, LinkFits x y s l → LinkFits x y (s.withLink l k) l) : LinkMoves P s l k where
  record := hrecord
  transmit := fun h q hq => (htransmit q hq).elim (h q) id
  ingress := fun h f hf => (hingress f hf).elim (h f) id
  live := fun hup ⟨r, hr, hl⟩ => absurd hl ((hend hup).1 r hr)
  dark := fun hup _ => (hend hup).2
  fits := hfits

theorem sessionEnd_ended (s : State) (l : LinkNo) : Ended (s.sessionEnd l) l := by
  refine ⟨fun r hr => ?_, fun t h => h ▸ sessionEnd_offline s t⟩
  rw [sessionEnd_queue] at hr
  simpa using (List.mem_filter.1 hr).2

/-! ## Bodies (11.2) -/

theorem readPayload_length {bytes : List Byte} {payload : List Word}
    (h : readPayload bytes = some payload) : payload.length ≤ 2 := by
  unfold readPayload at h
  split at h <;> cases h
  · exact Nat.zero_le 2
  · exact one_le_two
  · exact le_rfl

/-- A body that is read has at most two payload words (11.2). -/
theorem readBody_payloadWords {kind : FrameKind} {body : List Byte} {f : InFrame}
    (h : readBody kind body = some f) : f.payloadWords ≤ 2 := by
  unfold readBody at h
  split at h
  case h_1 =>
    obtain ⟨payload, hp, rfl⟩ := Option.map_eq_some_iff.1 h
    exact readPayload_length hp
  case h_2 =>
    split at h <;> cases h
    exact Nat.zero_le 2
  all_goals
    cases h <;> exact Nat.zero_le 2

theorem render_length (draw : Nat) (bs : List ResultByte) : (render draw bs).length = bs.length := by
  simp [render]

theorem response_length_le {sequence : Byte} {status : Status} {results : List ResultByte} {draw : Nat}
    (h : results.length ≤ 46) :
    ((OutFrame.response sequence status (render draw results)).body 0).length ≤ 48 := by
  simp only [OutFrame.body, List.length_cons, render_length]
  omega

namespace Proceeds

theorem refl (s : State) : Proceeds P s s := .delivers (.refl s)

theorem report (s : State) (r : FaultRecord) (marked : Bool) : Proceeds P s (s.report r marked) :=
  .delivers (.report s r marked)

/-- Moves that may leave a link, and leave it in agreement. -/
theorem left {s b : State} {l : LinkNo} (h : Proceeds (P.leaving l) s b)
    (hb : ∀ x y, LinkFits x y s l → LinkFits x y b l) : Proceeds P s b :=
  .settled _ h ⟨id, fun _ => .inl, fun _ _ => .inl, fun _ hm => hm.elim (fun hm => .inr (hm ▸ hb)) .inl⟩

/-- The link may be left, or is UP and the frame taken out is no EVENT. -/
theorem finishFrame (s : State) (l : LinkNo) (p : InFrame → Bool)
    (h : P.link l ∨ s.links[l].state = .up ∧ ∀ f, p f = true → f.isEvent = false) :
    Proceeds P s (s.finishFrame l p) := by
  rw [State.finishFrame_eq]
  refine .link s l _ (.of_session rfl rfl rfl (fun _ => finished_transmit)
    (fun _ hf => .inl (List.mem_of_mem_eraseP hf)) (h.imp_right fun ⟨hup, hp⟩ => ⟨?_, fun f hf => ?_⟩))
  · exact finished_sound hup List.length_eraseP_le
  · exact (find_eraseP hp _).trans hf

theorem finish (s : State) (l : LinkNo) (h : P.link l ∨ s.links[l].state = .up) : Proceeds P s (s.finish l) := by
  rw [State.finish_eq]
  exact .link s l _ (.of_session rfl rfl rfl (fun _ => finished_transmit) (fun _ => .inl)
    (h.imp_right fun hup => ⟨finished_sound (ingress := s.links[l].ingress) hup le_rfl, fun _ => id⟩))

theorem isTargetFrame_not_event (f : InFrame) (h : f.isTargetFrame = true) : f.isEvent = false := by
  cases f <;> first | rfl | cases h

/-- A target frame in progress that its own command takes, or that a session end takes first. -/
theorem takeTargetFrame {s : State} {t : TargetNo} {f : InFrame} (hf : s.targetFrame t = some f)
    (hclaim : ∀ tag, f = .claim tag → P.claim t) : Proceeds P s ((s.takeTargetFrame t f).finishTargetFrame t) := by
  obtain ⟨hoffline, hup, -⟩ := State.targetFrame_some hf
  have htaken : Delivers P s _ := .takeTargetFrame hoffline f hclaim
  refine (Proceeds.delivers htaken).trans (finishFrame _ _ _ (.inr ⟨?_, isTargetFrame_not_event⟩))
  obtain ⟨extra, hlink, -⟩ := htaken.moves.link_grows (targetLink t)
  rw [hlink]
  exact isUp_iff.1 hup

theorem takeInProgress (s : State) (t : TargetNo) (hclaim : P.claim t) : Proceeds P s (s.takeInProgress t) := by
  unfold State.takeInProgress
  split
  · next f hf => exact takeTargetFrame hf fun _ _ => hclaim
  · exact refl s

/-! ## Sessions -/

theorem sessionCleared (s : State) (l : LinkNo) (hlink : P.link l) : Proceeds P s (sessionCleared s l) := by
  have hemptied : LinkMoves P s l { s.links[l] with ingress := [], transmit := [], grant := 4 } :=
    .of_session rfl rfl rfl (fun _ h => absurd h List.not_mem_nil) (fun _ h => absurd h List.not_mem_nil) (.inl hlink)
  exact (Proceeds.link s l _ hemptied).trans (.queue _ _ List.filter_sublist)

theorem clearSession (s : State) (l : LinkNo) (hlink : P.link l) : Proceeds P s (s.clearSession l) := by
  cases h : linkTarget l with
  | none =>
    rw [clearSession_source h]
    exact sessionCleared s l hlink
  | some t =>
    obtain rfl := linkTarget_eq_some.1 h
    rw [clearSession_target]
    exact (sessionCleared s _ hlink).trans (.delivers (.targetSessionEnd _ t hlink))

/-- A session end leaves its link to what follows. -/
theorem sessionEnd (s : State) (l : LinkNo) : Proceeds (P.leaving l) s (s.sessionEnd l) := by
  cases h : linkTarget l with
  | none =>
    rw [State.sessionEnd_source s h]
    exact clearSession s l (.inl rfl)
  | some t =>
    obtain rfl := linkTarget_eq_some.1 h
    have hended : Proceeds ((P.leaving (targetLink t)).claiming (targetLink t)) s (s.sessionEnd (targetLink t)) := by
      rw [State.sessionEnd_target]
      exact (takeInProgress (P := (P.leaving (targetLink t)).claiming (targetLink t)) s t (.inl rfl)).trans
        (clearSession _ _ (.inl rfl))
    refine .settled _ hended ⟨id, fun u hu => ?_, fun _ _ => .inl, fun _ => .inl⟩
    rcases hu with hu | hu
    · obtain rfl := targetLink_injective hu
      exact .inr (sessionEnd_stack_length s t)
    · exact .inl hu

theorem started_moves {s : State} {l : LinkNo} (hlink : P.link l) (hend : s.links[l].state = .up → Ended s l)
    (answer : Bool) : LinkMoves P s l (s.links[l].started l answer) := by
  refine .of_ended hend rfl (fun q hq => .inr ?_) (by simp [Link.started]) (.inl hlink)
  cases answer with
  | false => cases hq
  | true => exact List.mem_singleton.1 hq ▸ (by decide : 2 ≤ 48)

/-- A session start leaves its link to be compared with the session before. -/
theorem sessionStart {s : State} {l : LinkNo} (hend : s.links[l].state = .up → Ended s l) (answer : Bool) :
    Proceeds (P.leaving l) s (s.sessionStart l answer) := by
  have hleft : (P.leaving l).link l := .inl rfl
  rw [sessionStart_eq]
  unfold State.sessionStarted
  dsimp only
  split
  · next t h =>
    obtain rfl := linkTarget_eq_some.1 h
    have hleft' : ((P.leaving (targetLink t)).owing fun u _ => u = t).link (targetLink t) := .inl rfl
    have hstart : Proceeds ((P.leaving (targetLink t)).owing fun u _ => u = t) s _ :=
      .start s t _ (started_moves hleft' hend answer) hleft' (fun _ => .inl rfl) rfl fun hup => (hend hup).2 t rfl
    refine .settled _ (hstart.trans (.delivers (.reexamine _ t))) ⟨id, fun _ => .inl, fun u l hu => ?_, fun _ => .inl⟩
    rcases hu with rfl | hu
    · refine .inr fun _ => reexamine_notDue ?_ l
      rw [State.withTarget_self]
      exact TargetState.noConfusion
    · exact .inl hu
  · exact .link s l _ (started_moves hleft hend answer)

end Proceeds

end Sys2Proof.Proofs
end

section
/-! The moves of a link that enters TRAINING, FAULTED or a session, of a link that receives a frame, and of an answer; each
leaves its link in agreement with its target. -/

open Sys2Proof Sys2Proof.Machine

namespace Sys2Proof.Proofs

variable {P : Leave}

/-! ## Links after sessions (R144, R147, R158, R159) -/

theorem started_sound (l : LinkNo) (answer : Bool) (k : Link) : LinkSound (k.started l answer) := by
  refine ⟨Nat.zero_le _, Nat.zero_le _, fun _ => Nat.zero_le _, ?_, ?_, ?_, ?_⟩ <;> cases answer <;>
    simp [Link.started]

/-- The link and the target after a session start, re-examined (R124, R144). -/
theorem sessionStart_link (s : State) (l : LinkNo) (answer : Bool) :
    LinkGrows (s.links[l].started l answer) (s.sessionStart l answer).links[l] ∧
      ∀ t, l = targetLink t → (s.sessionStart l answer).targets[t].state ≠ .offline := by
  rw [sessionStart_eq]
  unfold State.sessionStarted
  dsimp only
  split
  · next t h =>
    obtain rfl := linkTarget_eq_some.1 h
    have hreexamine : Delivers Leave.prompt _ _ := .reexamine ((s.withLink (targetLink t)
      (s.links[targetLink t].started (targetLink t) answer)).withTarget t Target.fresh) t
    refine ⟨?_, fun u hu => ?_⟩
    · have hgrows := hreexamine.moves.link_grows (targetLink t)
      rwa [show ((s.withLink (targetLink t) _).withTarget t Target.fresh).links[targetLink t] = _ from
        State.withLink_self s (targetLink t) _] at hgrows
    · obtain rfl := targetLink_injective hu
      rw [ne_eq, (reexamine_target _ t t).2, State.withTarget_self]
      exact TargetState.noConfusion
  · next h => exact ⟨State.withLink_self s l _ ▸ .refl _, fun t ht => absurd ht (ne_targetLink_of_none h t)⟩

/-- A session that starts in TRAINING, or anew after a session end, puts the link in agreement. -/
theorem sessionStart_fits {x : Bool} {y : Vector (Option PassedEvent) 12} {s a : State} {l : LinkNo}
    (hs : LinkFits x y s l) (hwas : s.links[l].state ≠ .down) (hsession : a.links[l].session = s.links[l].session)
    (answer : Bool) : LinkFits x y (a.sessionStart l answer) l := by
  obtain ⟨hgrows, htarget⟩ := sessionStart_link a l answer
  have hsound := hgrows.sound (started_sound l answer a.links[l])
  obtain ⟨extra, hlink, -⟩ := hgrows
  exact hs.started hsound (by rw [hlink]; rfl) hwas (by rw [hlink, ← hsession]; rfl) htarget

/-- A link that is not UP and holds no frame, with its timers as its state asks (R141, R143, R158). -/
theorem idle_sound {k : Link} (hingress : k.ingress = []) (htransmit : k.transmit = []) (hgrant : k.grant = 4)
    (herrors : k.errors ≤ 15) (hstate : k.state ≠ .up) (htraining : k.trainingTimer = true ↔ k.state = .training)
    (hquiet : k.quietTimer = true → k.state = .faulted) : LinkSound k := by
  refine ⟨?_, herrors, fun h => absurd h hstate, ?_, htraining, hquiet, fun _ => ⟨hingress, htransmit, hgrant⟩⟩
  · rw [hingress]
    exact Nat.zero_le _
  · rw [htransmit]
    exact Nat.zero_le _

/-- The link holds nothing in `a`, in the session of `s`, and its target is OFFLINE (R95, R147). -/
structure Emptied (s a : State) (l : LinkNo) : Prop where
  ingress : a.links[l].ingress = []
  transmit : a.links[l].transmit = []
  grant : a.links[l].grant = 4
  errors : a.links[l].errors ≤ 15
  session : a.links[l].session = s.links[l].session
  target : ∀ t, l = targetLink t → a.targets[t].state = .offline

/-- A session end empties its link. -/
theorem Emptied.of_sessionEnd {s a : State} {l : LinkNo} (herrors : a.links[l].errors ≤ 15)
    (hsession : a.links[l].session = s.links[l].session) : Emptied s (a.sessionEnd l) l where
  ingress := by rw [sessionEnd_link]
  transmit := by rw [sessionEnd_link]
  grant := by rw [sessionEnd_link]
  errors := by rwa [sessionEnd_link]
  session := by rwa [sessionEnd_link]
  target t h := h ▸ sessionEnd_offline a t

section Agreement

variable {x : Bool} {y : Vector (Option PassedEvent) 12} {s a : State} {l : LinkNo}

/-- A link that is not UP holds nothing. -/
theorem Emptied.of_not_up (hs : LinkFits x y s l) (h : s.links[l].state ≠ .up) : Emptied s s l := by
  obtain ⟨⟨-, herrors, -, -, -, -, hempty⟩, -, htarget, -⟩ := hs
  obtain ⟨hingress, htransmit, hgrant⟩ := hempty h
  exact ⟨hingress, htransmit, hgrant, herrors, rfl, fun t ht => (htarget t ht).2 (by simpa [State.isUp] using h)⟩

/-- An emptied link that enters TRAINING is in agreement (R143). -/
theorem Emptied.training (ha : Emptied s a l) (hwas : s.links[l].state ≠ .down) (hs : LinkFits x y s l) :
    LinkFits x y (a.modLink l (Link.enterTraining l)) l := by
  have hk : (a.modLink l (Link.enterTraining l)).links[l] = a.links[l].enterTraining l := State.withLink_self ..
  refine hs.closed ?_ ?_ ?_ hwas ?_ ha.target <;> rw [hk]
  · exact idle_sound ha.ingress ha.transmit ha.grant ha.errors LinkState.noConfusion (iff_of_true rfl rfl)
      (fun h => absurd h Bool.noConfusion)
  · exact LinkState.noConfusion
  · exact LinkState.noConfusion
  · exact ha.session

/-- An emptied link that enters FAULTED, which is reported, is in agreement (R158). -/
theorem Emptied.faulted (ha : Emptied s a l) (hwas : s.links[l].state ≠ .down) (hs : LinkFits x y s l) :
    LinkFits x y (a.modLink l Link.enterFaulted) l := by
  have hk : (a.modLink l Link.enterFaulted).links[l] = a.links[l].enterFaulted := State.withLink_self ..
  refine hs.closed ?_ ?_ ?_ hwas ?_ ha.target <;> rw [hk]
  · exact idle_sound ha.ingress rfl ha.grant ha.errors LinkState.noConfusion
      (iff_of_false Bool.noConfusion LinkState.noConfusion) (fun _ => rfl)
  · exact LinkState.noConfusion
  · exact LinkState.noConfusion
  · exact ha.session

theorem report_fits (hs : LinkFits x y s l) (r : FaultRecord) (marked : Bool) :
    LinkFits x y (s.report r marked) l :=
  (Delivers.report (P := { Leave.any with link := fun _ => False }) s r marked).linkFits id hs

/-- With its errors compared with the limit, a link in UP whose errors alone may be too many is in agreement
(R156). -/
theorem checkLimit_fits (hs : LinkFits x y s l) (hup : s.links[l].state = .up)
    (hstate : a.links[l].state = s.links[l].state) (hsession : a.links[l].session = s.links[l].session)
    (hsound : LinkSound { a.links[l] with errors := 0 }) (herrors : a.links[l].errors ≤ 15)
    (hevent : ∀ f, s.links[l].ingress.find? InFrame.isEvent = some f →
      a.links[l].ingress.find? InFrame.isEvent = some f)
    (htarget : ∀ t, l = targetLink t → (a.targets[t].state = .offline ↔ s.targets[t].state = .offline)) :
    LinkFits x y (a.checkLimit l) l := by
  unfold State.checkLimit
  split
  · refine Emptied.faulted (.of_sessionEnd ?_ ?_) ?_ hs
    · rwa [State.report_links]
    · rwa [State.report_links]
    · rw [hup]
      exact LinkState.noConfusion
  · next hbelow =>
    have hlimit := a.links[l].record.errorLimit.isLt
    obtain ⟨hingress, -, -, hone, htraining, hquiet, hempty⟩ := hsound
    refine hs.keep ⟨hingress, herrors, fun _ => ?_, hone, htraining, hquiet, hempty⟩ hstate hsession hevent htarget
    omega

end Agreement

namespace Proceeds

/-! ## Training, faults and resets (R143, R158, R159) -/

theorem enterTraining {s : State} {l : LinkNo} (hend : s.links[l].state = .up → Ended s l) :
    Proceeds (P.leaving l) s (s.modLink l (Link.enterTraining l)) :=
  .link s l _ (.of_ended hend rfl (fun _ => .inl) (fun _ => .inl) (.inl (.inl rfl)))

theorem enterFaulted {s : State} {l : LinkNo} (hend : s.links[l].state = .up → Ended s l) :
    Proceeds (P.leaving l) s (s.modLink l Link.enterFaulted) :=
  .link s l _ (.of_ended hend rfl (by simp [Link.enterFaulted]) (fun _ => .inl) (.inl (.inl rfl)))

/-- A link that is not UP enters TRAINING. -/
theorem idle_training {s : State} {l : LinkNo} (hup : s.links[l].state ≠ .up) (hdown : s.links[l].state ≠ .down) :
    Proceeds P s (s.modLink l (Link.enterTraining l)) :=
  left (enterTraining fun h => absurd h hup) fun _ _ hs => (Emptied.of_not_up hs hup).training hdown hs

theorem resetLinkNow (s : State) (l : LinkNo) : Proceeds P s (s.resetLinkNow l) := by
  unfold State.resetLinkNow
  split
  · exact refl s
  · next h =>
    refine left ((sessionEnd s l).trans (enterTraining fun _ => sessionEnd_ended s l)) fun _ _ hs => ?_
    refine Emptied.training (.of_sessionEnd hs.1.2.1 rfl) ?_ hs
    rw [h]
    exact LinkState.noConfusion
  · next h => exact idle_training (by rw [h]; exact LinkState.noConfusion) (by rw [h]; exact LinkState.noConfusion)
  · next h => exact idle_training (by rw [h]; exact LinkState.noConfusion) (by rw [h]; exact LinkState.noConfusion)

/-! ## Receiving -/

theorem countError (s : State) (l : LinkNo) : Proceeds (P.leaving l) s (s.countError l) :=
  .link s l _ (.of_session rfl rfl rfl (fun _ => .inl) (fun _ => .inl) (.inl (.inl rfl)))

theorem checkLimit (s : State) (l : LinkNo) : Proceeds (P.leaving l) s (s.checkLimit l) := by
  unfold State.checkLimit
  split
  · exact ((report s _ _).trans (sessionEnd _ l)).trans (enterFaulted fun _ => sessionEnd_ended _ l)
  · exact refl s

/-- A frame that counts as an error is finished, and the errors are compared with the limit (R154 to R156). -/
theorem counted {s a : State} {l : LinkNo} (h : Proceeds (P.leaving l) s a) (hup : s.links[l].state = .up)
    (hlinks : a.links = (s.countError l).links) (htargets : a.targets = s.targets) :
    Proceeds P s ((a.finish l).checkLimit l) := by
  refine left ((h.trans (finish a l (.inl (.inl rfl)))).trans (checkLimit _ l)) fun x y hs => ?_
  have hlink : (a.finish l).links[l] =
      ({ s.links[l] with errors := s.links[l].errors + 1 } : Link).finished := by
    rw [State.finish_eq, State.withLink_self, hlinks]
    exact congrArg Link.finished (State.withLink_self ..)
  have hsound := hs.1
  obtain ⟨hingress, -, hbelow, hone, htraining, hquiet, -⟩ := hsound
  have herrors := hbelow hup
  refine checkLimit_fits hs hup ?_ ?_ ?_ ?_ ?_ fun t _ => ?_
  · rw [hlink]
    rfl
  · rw [hlink]
    rfl
  · rw [hlink]
    exact finished_sound (k := { s.links[l] with errors := 0 }) (ingress := s.links[l].ingress) hup le_rfl
      ⟨hingress, Nat.zero_le _, fun _ => Nat.zero_le _, hone, htraining, hquiet, fun h => absurd hup h⟩
  · rw [hlink]
    exact Nat.succ_le_succ herrors
  · rw [hlink]
    exact fun _ => id
  · rw [State.finish_eq, ← htargets]
    rfl

theorem discardWithErr (s : State) (l : LinkNo) (reason : ErrReason) (kind : Byte) (hup : s.links[l].state = .up) :
    Proceeds P s (s.discardWithErr l reason kind) := by
  unfold State.discardWithErr
  dsimp only
  have htold : Delivers P s (if (linkTarget l).isSome then s.post l (.err reason kind) else s) := by
    split
    · exact .post s l OutFrame.noConfusion (Delivers.fits_of_length_le_two le_rfl)
    · exact .refl s
  have hreported := htold.trans (.report _ (linkFault .protocol l none (reason.detail kind)) false)
  refine (Proceeds.delivers hreported).trans (finish _ l (.inr ?_))
  obtain ⟨extra, hlink, -⟩ := hreported.moves.link_grows l
  rw [hlink]
  exact hup

/-- A HELLO that is refused leaves its link FAULTED (R144, R145). -/
theorem faulted_reported {s a : State} {l : LinkNo} (h : Proceeds (P.leaving l) s a)
    (hend : a.links[l].state = .up → Ended a l) (hwas : s.links[l].state ≠ .down)
    (hempty : ∀ x y, LinkFits x y s l → Emptied s a l) (r : FaultRecord) :
    Proceeds P s ((a.modLink l Link.enterFaulted).report r false) :=
  left ((h.trans (enterFaulted hend)).trans (report _ _ _)) fun x y hs =>
    report_fits ((hempty x y hs).faulted hwas hs) _ _

theorem helloUp {s : State} {l : LinkNo} (hup : s.links[l].state = .up) (body : List Byte) :
    Proceeds P s (s.helloUp l body) := by
  have hended := sessionEnd_ended s l
  have hwas : s.links[l].state ≠ .down := by
    rw [hup]
    exact LinkState.noConfusion
  have hfaulted : ∀ r, Proceeds P s (((s.sessionEnd l).modLink l Link.enterFaulted).report r false) :=
    faulted_reported (sessionEnd s l) (fun _ => hended) hwas fun _ _ hs => .of_sessionEnd hs.1.2.1 rfl
  unfold State.helloUp
  split
  · split
    · split
      · exact left ((sessionEnd s l).trans (sessionStart (fun _ => hended) true)) fun _ _ hs =>
          sessionStart_fits hs hwas (by rw [sessionEnd_link]) true
      · exact refl s
    · exact hfaulted _
  · exact hfaulted _

theorem helloTraining {s : State} {l : LinkNo} (htraining : s.links[l].state = .training)
    (body : List Byte) : Proceeds P s (s.helloTraining l body) := by
  have hup : s.links[l].state ≠ .up := by
    rw [htraining]
    exact LinkState.noConfusion
  have hwas : s.links[l].state ≠ .down := by
    rw [htraining]
    exact LinkState.noConfusion
  have hfaulted : ∀ r, Proceeds P s ((s.modLink l Link.enterFaulted).report r false) :=
    faulted_reported (refl s) (fun h => absurd h hup) hwas fun _ _ hs => .of_not_up hs hup
  unfold State.helloTraining
  split
  · split
    · exact left (sessionStart (fun h => absurd h hup) _) fun _ _ hs => sessionStart_fits hs hwas rfl _
    · exact hfaulted _
  · exact hfaulted _

/-- A received frame joins the tail of a buffer with room (R149). -/
theorem joins_ingress {s : State} {l : LinkNo} {f : InFrame} (hup : s.links[l].state = .up)
    (hroom : s.links[l].ingress.length < 4) (hf : f.payloadWords ≤ 2) :
    LinkMoves P s l { s.links[l] with ingress := s.links[l].ingress ++ [f] } := by
  refine .of_session rfl rfl rfl (fun _ => .inl) (fun x hx => ?_) (.inr ⟨?_, fun e he => ?_⟩)
  · rcases List.mem_append.1 hx with hx | hx
    · exact .inl hx
    · exact .inr (List.mem_singleton.1 hx ▸ hf)
  · rintro ⟨-, herrors, hbelow, hone, htraining, hquiet, -⟩
    refine ⟨?_, herrors, hbelow, hone, htraining, hquiet, fun h => absurd hup h⟩
    rw [List.length_append]
    exact hroom
  · rw [List.find?_append, he]
    rfl

theorem receiveOther {s : State} {l : LinkNo} (hup : s.links[l].state = .up) (w : Wire) :
    Proceeds P s (s.receiveOther l w) := by
  unfold State.receiveOther
  split
  · next hroom =>
    split
    · split
      · split
        · next f hf => exact .link s l _ (joins_ingress hup hroom (readBody_payloadWords hf))
        · exact discardWithErr s l _ _ hup
      · exact discardWithErr s l _ _ hup
    · exact discardWithErr s l _ _ hup
  · exact counted ((countError s l).trans (report _ _ _)) hup (State.report_links ..) (State.report_targets ..)

theorem receive (s : State) (l : LinkNo) (w : Wire) : Proceeds P s (s.receive l w) := by
  unfold State.receive
  split
  · next hup =>
    split
    · split
      · exact helloUp hup _
      · exact receiveOther hup w
    · exact counted (countError s l) hup rfl rfl
  · next h =>
    split
    · exact helloTraining h _
    · exact refl s
  · exact refl s
  · exact refl s

theorem receiveBytes (s : State) (l : LinkNo) (bytes : List Byte) : Proceeds P s (s.receiveBytes l bytes) := by
  unfold State.receiveBytes
  split
  · exact receive ..
  · exact refl s

/-! ## Answers -/

theorem answer (s : State) (r : Request) {reply : Reply} (h : reply.results.length ≤ 46) (thenReset : Bool) :
    Proceeds P s (s.answer r reply thenReset) := by
  have hhand : Delivers P s _ := .hand s r.link r.session
    { frame := .response r.sequence reply.status (render s.draws reply.results), thenReset := thenReset }
    OutFrame.noConfusion (.inl (response_length_le h))
  unfold State.answer
  dsimp only
  split
  · exact (Proceeds.delivers hhand).trans (.draws _ _)
  · exact .delivers hhand

end Proceeds

end Sys2Proof.Proofs
end

section
/-! What every sequence of moves keeps. -/

open Sys2Proof Sys2Proof.Machine

namespace Sys2Proof.Proofs

variable {P : Leave}

/-- What holds of each link after a change of one holds of that one and of the others. -/
theorem withLink_forall {s : State} {l : LinkNo} {k : Link} {C : LinkNo → Link → Prop} (hk : C l k)
    (hs : ∀ m, C m s.links[m]) (m : LinkNo) : C m (s.withLink l k).links[m] := by
  by_cases hm : m = l
  · subst hm
    rwa [State.withLink_self]
  · rw [State.withLink_ne s k hm]
    exact hs m

/-- The limits of the queue, and that its requests belong to live sessions, but for the image load. -/
def QueueLive (s : State) : Prop :=
  s.queue.length ≤ 8 ∧ (∀ l : LinkNo, (s.queue.filter fun r => r.link == l).length ≤ 2) ∧
    ∀ r ∈ s.queue, s.links[r.link].state = .up ∧ s.links[r.link].session = r.session

theorem queueLive_withLink {l : LinkNo} {k : Link} (hk : LinkMoves P s l k) (hs : QueueLive s) :
    QueueLive (s.withLink l k) := by
  obtain ⟨hlength, hper, hlive⟩ := hs
  refine ⟨hlength, hper, fun r hr => ?_⟩
  obtain ⟨hup, hsession⟩ := hlive r hr
  by_cases hl : r.link = l
  · subst hl
    obtain ⟨hup', hsession'⟩ := hk.live hup ⟨r, hr, rfl⟩
    rw [State.withLink_self]
    exact ⟨hup', hsession'.trans hsession⟩
  · rw [State.withLink_ne s k hl]
    exact ⟨hup, hsession⟩

namespace Proceeds

variable {s b : State}

/-- The still part stays but for the count of free choices (R17 and the tables, image and mask chapters). -/
theorem still (h : Proceeds P s b) : b.still = { s.still with draws := b.draws } := by
  induction h with
  | settled _ _ _ ih => exact ih
  | trans _ _ hab hbc => rw [hbc, hab]
  | @delivers _ s b h =>
    have hstill := h.moves.still
    rw [show b.draws = s.draws from congrArg Still.draws hstill]
    exact hstill
  | link | start | queue | draws => rfl

theorem latches_pointers (h : Proceeds P s b) : b.latches = s.latches ∧ b.pointers = s.pointers := by
  induction h with
  | settled _ _ _ ih => exact ih
  | trans _ _ hab hbc => exact ⟨hbc.1.trans hab.1, hbc.2.trans hab.2⟩
  | delivers h => exact ⟨congrArg (·.2.1) h.moves.apart, congrArg (·.2.2) h.moves.apart⟩
  | link | start | queue | draws => exact ⟨rfl, rfl⟩

theorem faultBounds (h : Proceeds P s b) : FaultBounds s → FaultBounds b := by
  induction h with
  | settled _ _ _ ih => exact ih
  | trans _ _ hab hbc => exact hbc ∘ hab
  | delivers h => exact h.moves.faultBounds
  | link | start | queue | draws => exact id

theorem faults_length (h : Proceeds P s b) : s.faults.length ≤ b.faults.length := by
  induction h with
  | settled _ _ _ ih => exact ih
  | trans _ _ hab hbc => exact hab.trans hbc
  | delivers h => exact h.moves.faults_length
  | link | start | queue | draws => exact le_rfl

theorem poolInRange (h : Proceeds P s b) (hP : P.payload) : PoolInRange s → PoolInRange b := by
  induction h with
  | settled _ _ hs ih => exact ih (hs.payload hP)
  | trans _ _ hab hbc => exact hbc hP ∘ hab hP
  | delivers h => exact h.moves.poolInRange hP
  | link | start | queue | draws => exact id

theorem link_record (h : Proceeds P s b) (l : LinkNo) : b.links[l].record = s.links[l].record := by
  induction h with
  | settled _ _ _ ih => exact ih
  | trans _ _ hab hbc => exact hbc.trans hab
  | delivers h =>
    obtain ⟨extra, hlink, -⟩ := h.moves.link_grows l
    rw [hlink]
  | link s m k hk => exact withLink_forall (C := fun n x => x.record = s.links[n].record) hk.record (fun _ => rfl) l
  | start s t k hk => exact withLink_forall (C := fun n x => x.record = s.links[n].record) hk.record (fun _ => rfl) l
  | queue | draws => rfl

theorem ingressFits (h : Proceeds P s b) :
    (∀ l : LinkNo, IngressFits s.links[l]) → ∀ l : LinkNo, IngressFits b.links[l] := by
  induction h with
  | settled _ _ _ ih => exact ih
  | trans _ _ hab hbc => exact hbc ∘ hab
  | delivers h =>
    intro hs l
    obtain ⟨extra, hlink, -⟩ := h.moves.link_grows l
    rw [hlink]
    exact hs l
  | link s m k hk => exact fun hs => withLink_forall (C := fun _ => IngressFits) (hk.ingress (hs m)) hs
  | start s t k hk => exact fun hs => withLink_forall (C := fun _ => IngressFits) (hk.ingress (hs _)) hs
  | queue | draws => exact id

theorem transmitFits (h : Proceeds P s b) (hP : P.payload) (hpool : PoolInRange s) :
    (∀ l : LinkNo, TransmitFits s.links[l]) → ∀ l : LinkNo, TransmitFits b.links[l] := by
  induction h with
  | settled _ _ hs ih => exact ih (hs.payload hP) hpool
  | trans hab _ ihab ihbc => exact ihbc hP (hab.poolInRange hP hpool) ∘ ihab hP hpool
  | delivers h => exact fun hs l => h.moves.transmitFits hP l hpool (hs l)
  | link s m k hk => exact fun hs => withLink_forall (C := fun _ => TransmitFits) (hk.transmit (hs m)) hs
  | start s t k hk => exact fun hs => withLink_forall (C := fun _ => TransmitFits) (hk.transmit (hs _)) hs
  | queue | draws => exact id

theorem queue_sublist (h : Proceeds P s b) : b.queue.Sublist s.queue := by
  induction h with
  | settled _ _ _ ih => exact ih
  | trans _ _ hab hbc => exact hbc.trans hab
  | @delivers _ s b h =>
    rw [show b.queue = s.queue from congrArg Prod.fst h.moves.apart]
  | queue _ _ hq => exact hq
  | link | start | draws => exact .refl _

theorem queueLive (h : Proceeds P s b) : QueueLive s → QueueLive b := by
  induction h with
  | settled _ _ _ ih => exact ih
  | trans _ _ hab hbc => exact hbc ∘ hab
  | @delivers _ s b h =>
    have hqueue : b.queue = s.queue := congrArg Prod.fst h.moves.apart
    unfold QueueLive
    rw [hqueue]
    refine And.imp_right (And.imp_right fun hlive r hr => ?_)
    obtain ⟨extra, hlink, -⟩ := h.moves.link_grows r.link
    rw [hlink]
    exact hlive r hr
  | link s m k hk => exact queueLive_withLink hk
  | start s t k hk => exact queueLive_withLink hk
  | queue s q hq =>
    rintro ⟨hlength, hper, hlive⟩
    exact ⟨hq.length_le.trans hlength, fun l => (hq.filter _).length_le.trans (hper l),
      fun r hr => hlive r (hq.subset hr)⟩
  | draws => exact id

/-- Only a claim makes a stack deeper (R80). -/
theorem stack_length (h : Proceeds P s b) {t : TargetNo} (hclaim : ¬ P.claim t) :
    b.targets[t].stack.length ≤ s.targets[t].stack.length := by
  induction h with
  | trans _ _ hab hbc => exact (hbc hclaim).trans (hab hclaim)
  | settled Q _ hs ih =>
    by_cases hleft : Q.claim t
    · exact ((hs.claim t hleft).resolve_left hclaim)
    · exact ih hleft
  | delivers h => exact h.stack_length hclaim
  | start s u k =>
    exact withTarget_forall (C := fun v x => x.stack.length ≤ s.targets[v].stack.length)
      (fun _ => Nat.zero_le _) (fun _ => le_rfl)
  | link | queue | draws => exact le_rfl

/-- Moves make no record overdue but where they may leave one (R97, R115, R116). -/
theorem notDue (h : Proceeds P s b) {t : TargetNo} {l : Level} (hdue : ¬ P.overdue t l) :
    NotDue s t l → NotDue b t l := by
  induction h with
  | trans _ _ hab hbc => exact hbc hdue ∘ hab hdue
  | settled Q _ hs ih =>
    by_cases hleft : Q.overdue t l
    · exact (hs.overdue t l hleft).resolve_left hdue
    · exact ih hleft
  | delivers h => exact h.notDue hdue
  | start s u k _ _ hall _ _ =>
    have htu : t ≠ u := by
      rintro rfl
      exact hdue (hall l)
    refine .of_calm (.refl s) ?_
    rw [State.withTarget_ne _ _ htu]
    exact .refl _
  | link | queue | draws => exact .of_eq rfl rfl

/-- A change of another link and of another target leaves the agreement of a link. -/
theorem linkFits_other {x : Bool} {y : Vector (Option PassedEvent) 12} {l m : LinkNo} {k : Link} (hne : l ≠ m)
    (hs : LinkFits x y s l) : LinkFits x y (s.withLink m k) l := by
  have hk := State.withLink_ne s k hne
  exact hs.keep (by rw [hk]; exact hs.1) (by rw [hk]) (by rw [hk]) (by rw [hk]; exact fun _ => id) fun _ _ => Iff.rfl

/-- Moves keep the agreement of links with their targets, but where they may leave a link. -/
theorem linkFits (h : Proceeds P s b) {l : LinkNo} (hlink : ¬ P.link l) {x : Bool}
    {y : Vector (Option PassedEvent) 12} : LinkFits x y s l → LinkFits x y b l := by
  induction h with
  | trans _ _ hab hbc => exact hbc hlink ∘ hab hlink
  | settled Q _ hs ih =>
    by_cases hleft : Q.link l
    · exact (hs.link l hleft).resolve_left hlink x y
    · exact ih hleft
  | delivers h => exact h.linkFits hlink
  | link s m k hk =>
    by_cases hm : l = m
    · subst hm
      exact hk.fits.resolve_left hlink x y
    · exact linkFits_other hm
  | start s t k hk hleft _ _ _ =>
    have hne : l ≠ targetLink t := fun hl => hlink (hl ▸ hleft)
    intro hs
    refine LinkFits.of_grows (s := s.withLink (targetLink t) k) (.refl _) (fun u hu => ?_) (linkFits_other hne hs)
    have hut : u ≠ t := by
      rintro rfl
      exact hne hu
    rw [State.withTarget_ne _ _ hut]
  | queue | draws => exact LinkFits.of_grows (.refl _) fun _ _ => Iff.rfl

end Proceeds

end Sys2Proof.Proofs
end

section
/-! The lengths of the results of requests (R201, 11.5): none is longer than the 46 bytes of a RESPONSE. -/

open Sys2Proof Sys2Proof.Machine

namespace Sys2Proof.Proofs

@[simp] theorem plain_length (bs : List Byte) : (plain bs).length = bs.length := by
  simp [plain]

/-- Blocks of `n` bytes each. -/
theorem flatMap_length_eq {α β : Type} {f : α → List β} {n : Nat} (xs : List α) (h : ∀ x ∈ xs, (f x).length = n) :
    (xs.flatMap f).length = n * xs.length := by
  induction xs with
  | nil => rfl
  | cons x xs ih =>
    rw [List.flatMap_cons, List.length_append, h x (by simp), ih fun y hy => h y (by simp [hy]), List.length_cons]
    ring

theorem flatMap_take_length_le {α β : Type} {f : α → List β} {n : Nat} (h : ∀ x, (f x).length = n) (count : Nat)
    (xs : List α) : ((xs.take count).flatMap f).length ≤ n * count := by
  rw [flatMap_length_eq _ fun x _ => h x]
  exact Nat.mul_le_mul_left n (List.length_take_le count xs)

theorem packBits_length (bs : List Bool) : (packBits bs).length = (bs.length + 7) / 8 := by
  simp [packBits]

theorem linkRecordBytes_length_le (s : State) (l : LinkNo) : (s.linkRecordBytes l).length ≤ 6 := by
  unfold State.linkRecordBytes
  split <;> simp

theorem readStatus_length_le (operands : List Byte) (s : State) : (s.readStatus operands).results.length ≤ 46 := by
  unfold State.readStatus
  split
  · simp only [Reply.ok, State.statusResult, List.length_append, plain_length, bytesOf_length]
    split <;> simp
  · simp [Reply.fail]

theorem linkResult_length_le (s : State) (l : LinkNo) : (s.linkResult l).length ≤ 46 := by
  have := linkRecordBytes_length_le s l
  simp only [State.linkResult, plain_length, List.length_append, List.length_cons, List.length_nil]
  omega

theorem readLink_length_le (operands : List Byte) (s : State) : (s.readLink operands).results.length ≤ 46 := by
  unfold State.readLink
  repeat' split
  · exact linkResult_length_le s _
  all_goals exact Nat.zero_le _

theorem inService_result_length (position : Nat) (e : InService) : (e.result position).length = 7 := by
  simp [InService.result]

theorem faultRecord_result_length (position : Nat) (r : FaultRecord) : (r.result position).length = 9 := by
  simp [FaultRecord.result]

theorem record_result_length (position : Nat) (r : Record) :
    (r.result position).length = 9 + 4 * r.payload.length := by
  simp [Record.result, halfResult]
  omega

theorem stackResult_length_le (s : State) (t : TargetNo) (start : Nat) : (s.stackResult t start).length ≤ 46 := by
  have hentries := flatMap_take_length_le (f := fun x : InService × Nat => x.1.result x.2)
    (fun x => inService_result_length x.2 x.1) 4 (s.targets[t].stack.reverse.zipIdx.drop start)
  simp only [State.stackResult, List.length_append, plain_length, List.length_cons, List.length_nil]
  omega

theorem targetResult_length_le (s : State) (t : TargetNo) : (s.targetResult t).length ≤ 46 := by
  have hlists := flatMap_length_eq (f := fun l : Level => bytesOf 2 (BitVec.ofNat 16 (s.levelList t l).length))
    (List.finRange 8) fun l _ => bytesOf_length 2 _
  simp only [State.targetResult, List.length_append, plain_length, List.length_cons, List.length_nil, bytesOf_length,
    hlists, List.length_finRange]
  decide

theorem readTarget_length_le (operands : List Byte) (s : State) : (s.readTarget operands).results.length ≤ 46 := by
  unfold State.readTarget
  repeat' split
  · exact Nat.zero_le _
  · exact targetResult_length_le s _
  · exact stackResult_length_le s _ _
  · exact stackResult_length_le s _ _
  all_goals exact Nat.zero_le _

theorem readFaults_length_le (operands : List Byte) (s : State) : (s.readFaults operands).results.length ≤ 46 := by
  unfold State.readFaults
  split
  · next start count =>
    split
    · exact Nat.zero_le _
    · have hrecords := flatMap_take_length_le (f := fun x : FaultRecord × Nat => x.1.result x.2)
        (fun x => faultRecord_result_length x.2 x.1) count.toNat (s.faults.zipIdx.drop start.toNat)
      simp only [Reply.ok, List.length_append, plain_length, List.length_cons, List.length_nil]
      omega
  · exact Nat.zero_le _

theorem readMask_length_le (operands : List Byte) (s : State) : (s.readMask operands).results.length ≤ 46 := by
  unfold State.readMask
  split
  · next hi lo count =>
    dsimp only
    split
    · exact Nat.zero_le _
    · split
      · exact Nat.zero_le _
      · simp only [Reply.ok, List.length_append, plain_length, List.length_cons, List.length_nil, packBits_length]
        refine le_trans (Nat.add_le_add_left (Nat.div_le_div_right (Nat.add_le_add_right
          (flatMap_take_length_le (n := 2) (fun _ => rfl) count.toNat _) 7)) _) ?_
        omega
  · exact Nat.zero_le _

theorem carriedRecords_length_le (n position room : Nat) (rs : List Record) :
    (carriedRecords n position room rs).flatten.length ≤ room := by
  induction n generalizing position room rs with
  | zero => exact Nat.zero_le _
  | succ n ih =>
    cases rs with
    | nil => exact Nat.zero_le _
    | cons r rs =>
      unfold carriedRecords
      dsimp only
      split
      · next hfit =>
        have := ih (position + 1) (room - (r.result position).length) rs
        rw [List.flatten_cons, List.length_append]
        omega
      · exact Nat.zero_le _

theorem pendingResult_length_le (s : State) (t : TargetNo) (l : Level) (start count : Nat) :
    (s.pendingResult t l start count).length ≤ 46 := by
  have hcarried := carriedRecords_length_le count start (46 - 5) ((s.levelList t l).drop start)
  simp only [State.pendingResult, List.length_append, plain_length, List.length_cons, List.length_nil,
    bytesOf_length, Config.resultBytes]
  omega

theorem readPending_length_le (operands : List Byte) (s : State) : (s.readPending operands).results.length ≤ 46 := by
  unfold State.readPending
  split
  · split
    · dsimp only
      split
      · exact Nat.zero_le _
      · exact pendingResult_length_le ..
    · exact Nat.zero_le _
  · exact Nat.zero_le _

theorem readEntry_length_le (operands : List Byte) (s : State) : (s.readEntry operands).results.length ≤ 46 := by
  unfold State.readEntry
  split
  · next selector hi lo count =>
    dsimp only
    split
    · exact Nat.zero_le _
    · split
      · exact Nat.zero_le _
      · split
        · exact Nat.zero_le _
        · split
          · next name _ =>
            have hentries := flatMap_take_length_le (f := fun e : Entry => bytesOf 4 e.code)
              (fun e => bytesOf_length 4 e.code) count.toNat ((s.bank name).entries.toList.drop (hi ++ lo : Half).toNat)
            simp only [Reply.ok, bankResult, Bank.entriesFrom, List.length_append, plain_length, List.length_cons,
              List.length_nil]
            omega
          · exact Nat.zero_le _
  · exact Nat.zero_le _

theorem readWindow_length_le (operands : List Byte) (s : State) : (s.readWindow operands).results.length ≤ 46 := by
  unfold State.readWindow
  split
  · dsimp only
    split
    · exact Nat.zero_le _
    · split
      · split
        · simp [Reply.ok, bankResult]
        · exact Nat.zero_le _
      · exact Nat.zero_le _
  · exact Nat.zero_le _

end Sys2Proof.Proofs
end

section
/-! What each command can do, said once: `Effect` names the cases, and `exec_effect` says that every command answers a
next state by one of them. Most commands are sequences of moves; the others name the fields they change. -/

open Sys2Proof Sys2Proof.Machine

namespace Sys2Proof.Proofs

/-- The state with the oldest request gone from the queue. -/
def dequeued (s : State) : State :=
  { s with queue := s.queue.tail }

/-- The payload of every EVENT frame in progress has at most two words (R42). -/
def ArrivingInRange (s : State) : Prop :=
  ∀ n : SourceLink, ∀ p ∈ s.arriving[n], p.payload.length ≤ 2

/-- `Effect P s c t`: the command `c` may answer the next state `t` in the state `s`. -/
inductive Effect (P : Leave) (s : State) : Instr → State → Prop where
  | proceeds {c : Instr} {t : State} (h : Proceeds P s t) : Effect P s c t
  | fullReset {t : State} (h : execFullReset s = .next t) : Effect P s .fullReset t
  | imageLoad {t : State} (hload : s.loading = true) (h : execImageLoad s = .next t) : Effect P s .imageLoad t
  | pass {n : SourceLink} {order : List TargetNo} {number : Byte} {payload : List Word}
      (hfree : s.arriving[n] = none) (hup : s.isUp (sourceLink n) = true) (hload : s.loading = false)
      (hfind : s.links[sourceLink n].ingress.find? InFrame.isEvent = some (.event number payload)) :
      Effect P s (.externalArrival n order)
        { s with
          arriving :=
            s.arriving.set n
              (some { session := s.links[sourceLink n].session, event := number, payload := payload }) }
  | takeEvent {n : SourceLink} {order : List TargetNo} {p : PassedEvent} {a m : State}
      (hp : s.arriving[n] = some p) (hload : s.loading = false) (ha : Arrived P s a) (hm : Delivers P a m) :
      Effect P s (.externalArrival n order) (m.endEvent n p)
  | present {order : List TargetNo} {x : Raised} {rest : List Raised} (hfree : s.presented = none)
      (hload : s.loading = false) (hraised : s.raised = x :: rest) :
      Effect P s (.internalArrival order) { s with raised := rest, presented := some x }
  | takeRaised {order : List TargetNo} {x : Raised} {t : State} (hx : s.presented = some x)
      (hload : s.loading = false) (h : Arrived P { s with presented := none } t) :
      Effect P s (.internalArrival order) t
  | release {order : List TargetNo} {pace : Nat} {u : UnmaskRun} {latch : Latch}
      (hu : s.current = some (.unmask u)) (hlatch : u.presented = some latch) (hload : s.loading = false)
      (a : State) (outcome : ArrivalOutcome) (ha : Arrived P s a)
      (heq : s.arriveAt { kind := .release, origin := latch.origin, payload := [] } order latch.index
        s.activeBank.entries[latch.index] = (a, outcome)) :
      Effect P s (.release order pace) (a.unmaskOn (u.count outcome) pace)
  | maskNext {m : MaskRun} (hm : s.current = some (.mask m)) (hload : s.loading = false) :
      Effect P s .maskRange (s.maskNext m)
  | startMask {r : Request} (hr : s.nextRequest = some r) : Effect P s .maskRange (State.startMask r (dequeued s))
  | unmaskOn {u : UnmaskRun} {pace : Nat} (hu : s.current = some (.unmask u)) (hwait : u.presented = none)
      (hload : s.loading = false) : Effect P s (.unmaskRange pace) (s.unmaskOn u pace)
  | startUnmask {r : Request} {pace : Nat} (hr : s.nextRequest = some r) :
      Effect P s (.unmaskRange pace) (State.startUnmask pace r (dequeued s))
  | restartNext {run : RestartRun} (hrun : s.current = some (.restart run)) (hload : s.loading = false) :
      Effect P s .restart (s.restartNext run)
  | startRestart {r : Request} (hr : s.nextRequest = some r) : Effect P s .restart (State.startRestart r (dequeued s))
  | copyPhaseEnd {t : State} (hcopying : s.copyState = .copying) (h : execCopyPhaseEnd s = .next t) :
      Effect P s .copyPhaseEnd t
  | setLink {r : Request} {t : State} (h : Proceeds P (State.setLink r.operands (dequeued s)).1 t) :
      Effect P s .setLink t
  | freeze {r : Request} {t : State} (h : Proceeds P (State.freeze r.operands (dequeued s)).1 t) :
      Effect P s .freeze t
  | writeEntry {r : Request} {t : State} (h : Proceeds P (State.writeEntry r.operands (dequeued s)).1 t) :
      Effect P s .writeEntry t
  | writeWindow {r : Request} {t : State} (h : Proceeds P (State.writeWindow r.operands (dequeued s)).1 t) :
      Effect P s .writeWindow t
  | commit {r : Request} {t : State} (h : Proceeds P (State.commit r.operands (dequeued s)).1 t) :
      Effect P s .commit t
  | clearFaults {r : Request} {t : State} (h : Proceeds P (State.clearFaults r.operands (dequeued s)).1 t) :
      Effect P s .clearFaults t
  | startSave {r : Request} (hfrozen : s.frozen = false) (hcopy : s.copyState ≠ .copying) (hsaving : s.saving = none)
      (hspent : s.generationsSpent = false) : Effect P s .saveTables ((dequeued s).startSave r)
  | saveDone {contents : Option SlotContents} {check : Option Word} {run : SaveRun} (hrun : s.saving = some run) :
      Effect P s (.saveEnd contents check)
        (s.saveDone run (run.snapshot.contents run.generation)
          (slotCheck (slotBytes (run.snapshot.contents run.generation))))
  | saveFailed {contents : Option SlotContents} {check : Option Word} {run : SaveRun} (hrun : s.saving = some run)
      (readBack : SlotContents) : Effect P s (.saveEnd contents check) (s.saveFailed run readBack)
  | admitted {l : LinkNo} {sequence operation : Byte} {operands : List Byte} {t : State} (hup : s.isUp l = true)
      (hload : s.loading = false) (hroom : s.admits l = true)
      (h : Proceeds P
        { s with
          queue := s.queue ++
            [{ link := l, session := s.links[l].session, sequence := sequence, operation := operation,
               operands := operands }] } t) :
      Effect P s (.requestAdmission l) t

/-- The command answers a next state, by one of the cases of `Effect`. -/
def Completes (P : Leave) (s : State) (c : Instr) (outcome : Host.Outcome State Fault Refusal) : Prop :=
  ∃ t, outcome = .next t ∧ Effect P s c t

section Commands

variable {P : Leave} {s : State}

theorem Completes.of_effect {c : Instr} {t : State} (h : Effect P s c t) : Completes P s c (.next t) :=
  ⟨t, rfl, h⟩

theorem Completes.of_proceeds {c : Instr} {t : State} (h : Proceeds P s t) : Completes P s c (.next t) :=
  .of_effect (.proceeds h)

theorem Completes.idle (c : Instr) : Completes P s c (.next s) :=
  .of_proceeds (.refl s)

/-! ## Links -/

theorem trainingTimerExpiry_completes (l : LinkNo) :
    Completes P s (.trainingTimerExpiry l) (execTrainingTimerExpiry l s) := by
  unfold execTrainingTimerExpiry
  split
  · next h =>
    obtain ⟨hstate, htimer⟩ := h
    refine .of_proceeds (.link s l _ (.of_session rfl rfl rfl (fun _ => .inl) (fun _ => .inl)
      (.inr ⟨?_, fun _ => id⟩)))
    rintro ⟨hingress, herrors, hbelow, hone, -, hquiet, hempty⟩
    exact ⟨hingress, herrors, hbelow, hone, iff_of_true rfl hstate, hquiet, hempty⟩
  · exact .idle _

theorem helloInTraining_completes (l : LinkNo) (bytes : List Byte) :
    Completes P s (.helloInTraining l bytes) (execHelloInTraining l bytes s) := by
  unfold execHelloInTraining
  split
  · exact .of_proceeds (.receiveBytes ..)
  · exact .idle _

theorem helloInUp_completes (l : LinkNo) (bytes : List Byte) :
    Completes P s (.helloInUp l bytes) (execHelloInUp l bytes s) := by
  unfold execHelloInUp
  split
  · exact .of_proceeds (.receiveBytes ..)
  · exact .idle _

theorem quietTimerExpiry_completes (l : LinkNo) : Completes P s (.quietTimerExpiry l) (execQuietTimerExpiry l s) := by
  unfold execQuietTimerExpiry
  split
  · next h =>
    obtain ⟨hstate, -⟩ := h
    split
    · refine .of_proceeds (.idle_training ?_ ?_) <;> rw [hstate] <;> exact LinkState.noConfusion
    · refine .of_proceeds (.link s l _ (.of_session rfl rfl rfl (fun _ => .inl) (fun _ => .inl)
        (.inr ⟨?_, fun _ => id⟩)))
      rintro ⟨hingress, herrors, hbelow, hone, htraining, -, hempty⟩
      exact ⟨hingress, herrors, hbelow, hone, htraining, fun h => absurd h Bool.noConfusion, hempty⟩
  · exact .idle _

theorem placeCredit_transmit {k : Link} {q : Queued} (h : q ∈ k.placeCredit.transmit) :
    q ∈ k.transmit ∨ (q.frame.body 0).length ≤ 48 := by
  unfold Link.placeCredit at h
  split at h
  · exact .inl h
  · rcases List.mem_append.1 h with h | h
    · exact .inl h
    · exact .inr (List.mem_singleton.1 h ▸ (by decide))

theorem placeCredit_fixed (k : Link) : k.placeCredit.state = k.state ∧ k.placeCredit.session = k.session ∧
    k.placeCredit.record = k.record ∧ k.placeCredit.ingress = k.ingress := by
  unfold Link.placeCredit
  split <;> exact ⟨rfl, rfl, rfl, rfl⟩

theorem placeCredit_sound {k : Link} (hup : k.state = .up) (hk : LinkSound k) : LinkSound k.placeCredit := by
  obtain ⟨hingress, herrors, hbelow, hone, htraining, hquiet, -⟩ := hk
  unfold Link.placeCredit
  split
  · exact ⟨hingress, herrors, hbelow, hone, htraining, hquiet, fun h => absurd hup h⟩
  · next hnone =>
    refine ⟨hingress, herrors, hbelow, ?_, htraining, hquiet, fun h => absurd hup h⟩
    have hnone' : (k.transmit.filter fun q => q.frame == .credit) = [] := by
      rw [List.filter_eq_nil_iff]
      simpa using hnone
    unfold Link.append
    rw [List.filter_append, hnone']
    exact le_rfl

theorem creditRefresh_completes (l : LinkNo) : Completes P s (.creditRefresh l) (execCreditRefresh l s) := by
  unfold execCreditRefresh
  split
  · next hup =>
    obtain ⟨hstate, hsession, hrecord, hingress⟩ := placeCredit_fixed s.links[l]
    exact .of_proceeds (.link s l _ (.of_session hstate hsession hrecord (fun _ => placeCredit_transmit)
      (fun f hf => .inl (hingress ▸ hf)) (.inr ⟨placeCredit_sound (isUp_iff.1 hup), fun _ hf => hingress ▸ hf⟩)))
  · exact .idle _

theorem frameTransmit_completes (l : LinkNo) : Completes P s (.frameTransmit l) (execFrameTransmit l s) := by
  unfold execFrameTransmit
  split
  · next hup =>
    split
    · exact .idle _
    · next q rest hq =>
      have hsound : LinkSound s.links[l] → LinkSound (({ s.links[l] with transmit := rest } : Link).emit q.frame) := by
        rintro ⟨hingress, herrors, hbelow, hone, htraining, hquiet, -⟩
        rw [hq] at hone
        exact ⟨hingress, herrors, hbelow, (((List.sublist_cons_self q rest).filter _).length_le).trans hone, htraining,
          hquiet, fun h => absurd (isUp_iff.1 hup) h⟩
      have hleft : Proceeds P s (s.modLink l fun k => ({ k with transmit := rest } : Link).emit q.frame) :=
        .link s l _ (.of_session rfl rfl rfl (fun x hx => .inl (hq ▸ List.mem_cons_of_mem q hx)) (fun _ => .inl)
          (.inr ⟨hsound, fun _ => id⟩))
      dsimp only
      split
      · exact .of_proceeds (hleft.trans (.resetLinkNow _ l))
      · exact .of_proceeds hleft
  · exact .idle _

/-! ## Arrivals -/

theorem externalArrival_completes (hP : P.payload → ArrivingInRange s) (n : SourceLink) (order : List TargetNo) :
    Completes P s (.externalArrival n order) (execExternalArrival n order s) := by
  unfold execExternalArrival
  split
  · next p hp =>
    split
    · exact .idle _
    · next hload =>
      refine .of_effect ?_
      unfold State.takeEvent
      have harrived := arrive_arrived (P := P) (s := s)
        (a := { kind := .external, origin := { source := ⟨n.val, by omega⟩, event := p.event }, payload := p.payload })
        (fun h => hP h n p hp) order
      dsimp only
      split
      · exact .takeEvent hp (by simpa using hload) harrived
          (.hand _ _ _ _ OutFrame.noConfusion (Delivers.fits_of_length_le_two le_rfl))
      · exact .takeEvent hp (by simpa using hload) harrived (.refl _)
      · exact .takeEvent hp (by simpa using hload) harrived (.refl _)
  · next hfree =>
    rcases State.passEvent_cases s n with h | ⟨number, payload, hup, hload, hfind, h⟩ <;> rw [h]
    · exact .idle _
    · exact .of_effect (.pass hfree hup hload hfind)

theorem internalArrival_completes (order : List TargetNo) :
    Completes P s (.internalArrival order) (execInternalArrival order s) := by
  unfold execInternalArrival
  split
  · next x hx =>
    split
    · exact .idle _
    · next hload => exact .of_effect (.takeRaised hx (by simpa using hload) (arrive_arrived (fun _ => one_le_two) order))
  · next hfree =>
    rcases State.presentRaised_cases s with h | ⟨x, rest, hload, hraised, h⟩ <;> rw [h]
    · exact .idle _
    · exact .of_effect (.present hfree hload hraised)

theorem release_completes (order : List TargetNo) (pace : Nat) :
    Completes P s (.release order pace) (execRelease order pace s) := by
  unfold execRelease
  split
  · next u hu =>
    split
    · next latch hlatch =>
      split
      · exact .idle _
      · next hload =>
        have harrived := arriveAt_arrived (P := P) (s := s)
          (a := { kind := .release, origin := latch.origin, payload := [] }) (fun _ => Nat.zero_le 2) order
          latch.index s.activeBank.entries[latch.index]
        exact .of_effect (.release hu hlatch (by simpa using hload) _ _ harrived rfl)
    · exact .idle _
  · exact .idle _

/-! ## Target frames and timers -/

theorem claimFrame_completes (t : TargetNo) (hclaim : P.claim t) : Completes P s (.claimFrame t) (execClaimFrame t s) := by
  unfold execClaimFrame
  split
  · next hf => exact .of_proceeds (.takeTargetFrame hf fun _ _ => hclaim)
  · exact .idle _

theorem refuseFrame_completes (t : TargetNo) : Completes P s (.refuseFrame t) (execRefuseFrame t s) := by
  unfold execRefuseFrame
  split
  · next hf => exact .of_proceeds (.takeTargetFrame hf fun _ => InFrame.noConfusion)
  · exact .idle _

theorem doneFrame_completes (t : TargetNo) : Completes P s (.doneFrame t) (execDoneFrame t s) := by
  unfold execDoneFrame
  split
  · next hf => exact .of_proceeds (.takeTargetFrame hf fun _ => InFrame.noConfusion)
  · exact .idle _

theorem readyFrame_completes (t : TargetNo) : Completes P s (.readyFrame t) (execReadyFrame t s) := by
  unfold execReadyFrame
  split
  · next hf => exact .of_proceeds (.takeTargetFrame hf fun _ => InFrame.noConfusion)
  · exact .idle _

theorem levelFrame_completes (t : TargetNo) : Completes P s (.levelFrame t) (execLevelFrame t s) := by
  unfold execLevelFrame
  split
  · next hf => exact .of_proceeds (.takeTargetFrame hf fun _ => InFrame.noConfusion)
  · exact .idle _

theorem sleepFrame_completes (t : TargetNo) : Completes P s (.sleepFrame t) (execSleepFrame t s) := by
  unfold execSleepFrame
  split
  · next hf => exact .of_proceeds (.takeTargetFrame hf fun _ => InFrame.noConfusion)
  · exact .idle _

/-- A target that has answered no frame is LOST (R112, R117). -/
theorem rests_lost {t : TargetNo} {old : Target} (hoffline : old.state ≠ .offline) :
    Rests P t old old.stack (old.enter .lost) where
  state := by simp [Target.enter]
  offline h := absurd h hoffline
  awake := .inr (by simp [Target.enter])
  offer := rfl
  stack := .refl _
  timers := by simp [TimersSound, Target.enter]
  calm := .inr (.of_state (by simp [Target.enter]) (by simp [Target.enter]))

theorem claimTimerExpiry_completes (t : TargetNo) :
    Completes P s (.claimTimerExpiry t) (execClaimTimerExpiry t s) := by
  unfold execClaimTimerExpiry
  split
  · next hclaim =>
    split
    · next o r m hoffer =>
      split
      · exact .of_proceeds (.delivers (.freeRecord_enterReady hoffer))
      · split
        · next retries hretry =>
          obtain ⟨-, -, hrecord, -⟩ := State.currentOffer_some hoffer
          obtain ⟨hr, -⟩ := State.recordAt_some hrecord
          exact .of_proceeds (.delivers (.resend hretry hclaim OutFrame.noConfusion (.inr ⟨r, hr, o.tag, rfl⟩)))
        · refine .of_proceeds (.delivers ((Delivers.withdraw_modTarget hoffer ?_).trans (.report ..)))
          exact rests_lost (not_offline_of_currentOffer hoffer)
    · exact .idle _
  · exact .idle _

theorem claimTimerExpiryWaking_completes (t : TargetNo) :
    Completes P s (.claimTimerExpiryWaking t) (execClaimTimerExpiryWaking t s) := by
  unfold execClaimTimerExpiryWaking
  split
  · next h =>
    obtain ⟨hwaking, hclaim⟩ := h
    split
    · next retries level hretry _ =>
      exact .of_proceeds (.delivers (.resend hretry hclaim OutFrame.noConfusion
        (Delivers.fits_of_length_le_two one_le_two)))
    · refine .of_proceeds (.delivers (.trans (.rest s t _ (State.currentOffer_none ?_) ?_) (.report ..)))
      · rw [hwaking]
        decide
      · refine rests_lost ?_
        rw [hwaking]
        exact TargetState.noConfusion
  · exact .idle _

theorem holdTimerExpiry_completes (t : TargetNo) : Completes P s (.holdTimerExpiry t) (execHoldTimerExpiry t s) := by
  unfold execHoldTimerExpiry
  split
  · next h => exact .of_proceeds (.delivers (.enterReady (by rw [h.1]; decide) (by rw [h.1]; decide)))
  · exact .idle _

/-! ## Requests -/

theorem dequeued_proceeds (s : State) : Proceeds P s (dequeued s) :=
  .queue s _ (List.tail_sublist _)

theorem fail_proceeds (s : State) (r : Request) (status : Status) :
    Proceeds P s (s.answer r (.fail status) false) :=
  .answer s r (Nat.zero_le _) false

/-- A request is turned away by a sequence of moves, or is served by its body. -/
theorem serve_completes {c : Instr} {op : Operation} {body : Request → State → State}
    (hbody : ∀ r, s.takenFor op = some r → Effect P s c (body r (dequeued s))) :
    Completes P s c (.next (s.serve op body)) := by
  rcases State.serve_cases s op body with h | ⟨r, hr, -, ⟨-, h⟩ | ⟨-, h⟩⟩ <;> rw [h]
  · exact .idle c
  · exact .of_proceeds ((dequeued_proceeds s).trans (fail_proceeds _ r .denied))
  · exact .of_effect (hbody r hr)

theorem perform_completes {c : Instr} {op : Operation} {body : List Byte → State → State × Reply}
    (hlength : ∀ operands x, (body operands x).2.results.length ≤ 46)
    (hbody : ∀ (r : Request) (t : State), Proceeds P (body r.operands (dequeued s)).1 t → Effect P s c t) :
    Completes P s c (.next (s.perform op body)) :=
  serve_completes fun r _ => hbody r _ (.answer _ r (hlength r.operands _) false)

theorem inspect_completes {c : Instr} {op : Operation} {body : List Byte → State → Reply}
    (hlength : ∀ operands x, (body operands x).results.length ≤ 46) :
    Completes P s c (.next (s.inspect op body)) :=
  perform_completes hlength fun _ _ h => .proceeds ((dequeued_proceeds s).trans h)

theorem requestAdmission_completes (l : LinkNo) :
    Completes P s (.requestAdmission l) (execRequestAdmission l s) := by
  unfold execRequestAdmission
  split
  · next sequence operation operands hf =>
    have hlive : s.isUp l = true ∧ s.loading = false := by
      unfold State.waiting at hf
      split at hf
      · next h => simpa using h
      · cases hf
    obtain ⟨hup, hload⟩ := hlive
    have hrequest : ∀ f, InFrame.isRequest f = true → f.isEvent = false := by
      intro f hf
      cases f with
      | event => cases hf
      | _ => rfl
    dsimp only
    split
    · next hroom => exact .of_effect (.admitted hup hload hroom (.finishFrame _ l _ (.inr ⟨isUp_iff.1 hup, hrequest⟩)))
    · have hfull : Delivers P s (s.post l (.response sequence .full [])) :=
        .post s l OutFrame.noConfusion (Delivers.fits_of_length_le_two le_rfl)
      refine .of_proceeds (.trans (.delivers hfull) (.finishFrame _ l _ (.inr ⟨?_, hrequest⟩)))
      exact isUp_iff.1 ((hfull.moves.isUp l).trans hup)
  · exact .idle _

theorem cancel_proceeds (operands : List Byte) (s : State) : Proceeds P s (State.cancel operands (dequeued s)).1 := by
  refine (dequeued_proceeds s).trans ?_
  unfold State.cancel
  split
  · split
    · dsimp only
      split
      · exact .refl _
      · exact .delivers (.cancel ..)
    · exact .refl _
  · exact .refl _

theorem copyPhaseEnd_completes : Completes P s .copyPhaseEnd (execCopyPhaseEnd s) := by
  by_cases h : s.copyState = .copying
  · have hnext : ∃ t, execCopyPhaseEnd s = .next t := ⟨_, if_pos h⟩
    obtain ⟨t, ht⟩ := hnext
    exact ⟨t, ht, .copyPhaseEnd h ht⟩
  · rw [execCopyPhaseEnd, if_neg h]
    exact .idle _

theorem imageLoad_completes : Completes P s .imageLoad (execImageLoad s) := by
  by_cases hload : s.loading = true
  · have hnext : ∃ t, execImageLoad s = .next t := by
      cases h : chooseImage s.slots[0].image s.slots[1].image with
      | none => exact ⟨_, exec_imageLoad_none hload h⟩
      | some chosen => exact ⟨_, exec_imageLoad_chosen hload h⟩
    obtain ⟨t, ht⟩ := hnext
    exact ⟨t, ht, .imageLoad hload ht⟩
  · rw [execImageLoad, if_neg hload]
    exact .idle _

theorem resetLink_completes : Completes P s .resetLink (execResetLink s) := by
  refine serve_completes fun r _ => .proceeds ((dequeued_proceeds s).trans ?_)
  unfold State.resetLink
  split
  · split
    · exact fail_proceeds ..
    · dsimp only
      split
      · exact .answer _ r (by simp [Reply.ok]) _
      · exact (Proceeds.resetLinkNow ..).trans (.answer _ r (by simp [Reply.ok]) _)
  · exact fail_proceeds ..

theorem nextRequest_of_takenFor {op : Operation} {r : Request} (hop : op ≠ .cancel) (h : s.takenFor op = some r) :
    s.nextRequest = some r :=
  (State.takenFor_of_ne s hop).symm.trans h

theorem maskRange_completes : Completes P s .maskRange (execMaskRange s) := by
  unfold execMaskRange
  split
  · next m hm =>
    split
    · exact .idle _
    · next hload => exact .of_effect (.maskNext hm (by simpa using hload))
  · exact serve_completes fun r hr => .startMask (nextRequest_of_takenFor (by decide) hr)

theorem unmaskRange_completes (pace : Nat) : Completes P s (.unmaskRange pace) (execUnmaskRange pace s) := by
  unfold execUnmaskRange
  split
  · next u hu =>
    split
    · exact .idle _
    · next h =>
      simp only [Bool.or_eq_true, not_or, Bool.not_eq_true, Option.isSome_eq_false_iff, Option.isNone_iff_eq_none] at h
      exact .of_effect (.unmaskOn hu h.1 h.2)
  · exact serve_completes fun r hr => .startUnmask (nextRequest_of_takenFor (by decide) hr)

theorem restart_completes : Completes P s .restart (execRestart s) := by
  unfold execRestart
  split
  · next run hrun =>
    split
    · exact .idle _
    · next hload => exact .of_effect (.restartNext hrun (by simpa using hload))
  · exact serve_completes fun r hr => .startRestart (nextRequest_of_takenFor (by decide) hr)

theorem saveTables_completes : Completes P s .saveTables (execSaveTables s) := by
  refine serve_completes fun r _ => ?_
  have hfail (status : Status) : Effect P s .saveTables ((dequeued s).answer r (.fail status) false) :=
    .proceeds ((dequeued_proceeds s).trans (fail_proceeds _ r status))
  unfold State.takeSave
  split
  · split
    · exact hfail _
    · next hfrozen =>
      split
      · exact hfail _
      · next hcopy =>
        split
        · exact hfail _
        · next hsaving =>
          split
          · exact hfail _
          · next hspent =>
            exact .startSave (eq_false_of_ne_true hfrozen) hcopy (Option.not_isSome_iff_eq_none.1 hsaving)
              (eq_false_of_ne_true hspent)
  · exact hfail _

theorem saveEnd_completes (contents : Option SlotContents) (check : Option Word) :
    Completes P s (.saveEnd contents check) (execSaveEnd contents check s) := by
  unfold execSaveEnd
  split
  · next run hrun =>
    dsimp only
    split
    · split
      · exact .of_effect (.saveDone hrun)
      · exact .of_effect (.saveFailed hrun _)
    · exact .of_effect (.saveFailed hrun _)
  · exact .idle _

theorem unknownOp_completes : Completes P s .unknownOp (execUnknownOp s) := by
  unfold execUnknownOp
  split
  · split
    · exact .of_proceeds ((dequeued_proceeds s).trans (fail_proceeds ..))
    · exact .idle _
  · exact .idle _

/-! ## Replies of the requests that change the state -/

theorem setLink_result_length_le (s : State) (l : LinkNo) :
    (plain (BitVec.ofNat 8 l.val :: s.linkRecordBytes l)).length ≤ 46 := by
  have := linkRecordBytes_length_le s l
  rw [plain_length, List.length_cons]
  omega

theorem setLink_length_le (operands : List Byte) (s : State) : (s.setLink operands).2.results.length ≤ 46 := by
  unfold State.setLink
  repeat' (first | split | dsimp only)
  all_goals first | exact Nat.zero_le _ | exact setLink_result_length_le _ _

theorem freeze_length_le (operands : List Byte) (s : State) : (s.freeze operands).2.results.length ≤ 46 := by
  unfold State.freeze
  repeat' split
  all_goals exact Nat.zero_le _

theorem bankResult_length_le (n : BankName) : (bankResult n).length ≤ 46 := by
  simp [bankResult]

theorem writeEntry_length_le (operands : List Byte) (s : State) : (s.writeEntry operands).2.results.length ≤ 46 := by
  unfold State.writeEntry
  repeat' (first | split | dsimp only)
  all_goals first | exact Nat.zero_le _ | exact bankResult_length_le _

theorem writeWindow_length_le (operands : List Byte) (s : State) : (s.writeWindow operands).2.results.length ≤ 46 := by
  unfold State.writeWindow
  repeat' (first | split | dsimp only)
  all_goals first | exact Nat.zero_le _ | exact bankResult_length_le _

theorem commit_length_le (operands : List Byte) (s : State) : (s.commit operands).2.results.length ≤ 46 := by
  unfold State.commit
  repeat' (first | split | dsimp only)
  all_goals first | exact Nat.zero_le _ | exact bankResult_length_le _

theorem cancel_length_le (operands : List Byte) (s : State) : (s.cancel operands).2.results.length ≤ 46 := by
  unfold State.cancel
  repeat' (first | split | dsimp only)
  all_goals simp [Reply.fail, Reply.ok]

theorem clearFaults_length_le (operands : List Byte) (s : State) :
    (s.clearFaults operands).2.results.length ≤ 46 := by
  unfold State.clearFaults
  repeat' (first | split | dsimp only)
  all_goals simp [Reply.fail, Reply.ok]

end Commands

/-- Every command answers a next state, by one of the cases of `Effect`. -/
theorem exec_completes {P : Leave} {s : State} (hP : P.payload → ArrivingInRange s) :
    ∀ c : Instr, (∀ t, c = .claimFrame t → P.claim t) → Completes P s c (exec c s)
  | .fullReset, _ => .of_effect (.fullReset rfl)
  | .imageLoad, _ => imageLoad_completes
  | .trainingTimerExpiry l, _ => trainingTimerExpiry_completes l
  | .helloInTraining l bytes, _ => helloInTraining_completes l bytes
  | .helloInUp l bytes, _ => helloInUp_completes l bytes
  | .frameReceive l bytes, _ => .of_proceeds (.receiveBytes s l bytes)
  | .quietTimerExpiry l, _ => quietTimerExpiry_completes l
  | .creditRefresh l, _ => creditRefresh_completes l
  | .frameTransmit l, _ => frameTransmit_completes l
  | .externalArrival n order, _ => externalArrival_completes hP n order
  | .internalArrival order, _ => internalArrival_completes order
  | .release order pace, _ => release_completes order pace
  | .claimFrame t, hclaim => claimFrame_completes t (hclaim t rfl)
  | .refuseFrame t, _ => refuseFrame_completes t
  | .doneFrame t, _ => doneFrame_completes t
  | .readyFrame t, _ => readyFrame_completes t
  | .levelFrame t, _ => levelFrame_completes t
  | .sleepFrame t, _ => sleepFrame_completes t
  | .claimTimerExpiry t, _ => claimTimerExpiry_completes t
  | .claimTimerExpiryWaking t, _ => claimTimerExpiryWaking_completes t
  | .holdTimerExpiry t, _ => holdTimerExpiry_completes t
  | .copyPhaseEnd, _ => copyPhaseEnd_completes
  | .requestAdmission l, _ => requestAdmission_completes l
  | .readStatus, _ => inspect_completes readStatus_length_le
  | .readLink, _ => inspect_completes readLink_length_le
  | .setLink, _ => perform_completes setLink_length_le fun _ _ h => .setLink h
  | .readTarget, _ => inspect_completes readTarget_length_le
  | .resetLink, _ => resetLink_completes
  | .restart, _ => restart_completes
  | .freeze, _ => perform_completes freeze_length_le fun _ _ h => .freeze h
  | .writeEntry, _ => perform_completes writeEntry_length_le fun _ _ h => .writeEntry h
  | .writeWindow, _ => perform_completes writeWindow_length_le fun _ _ h => .writeWindow h
  | .readEntry, _ => inspect_completes readEntry_length_le
  | .readWindow, _ => inspect_completes readWindow_length_le
  | .commit, _ => perform_completes commit_length_le fun _ _ h => .commit h
  | .cancel, _ => perform_completes cancel_length_le fun r _ h => .proceeds ((cancel_proceeds r.operands s).trans h)
  | .readPending, _ => inspect_completes readPending_length_le
  | .maskRange, _ => maskRange_completes
  | .unmaskRange pace, _ => unmaskRange_completes pace
  | .readMask, _ => inspect_completes readMask_length_le
  | .readFaults, _ => inspect_completes readFaults_length_le
  | .clearFaults, _ => perform_completes clearFaults_length_le fun _ _ h => .clearFaults h
  | .saveTables, _ => saveTables_completes
  | .saveEnd contents check, _ => saveEnd_completes contents check
  | .unknownOp, _ => unknownOp_completes

theorem exec_effect {P : Leave} {s t : State} {c : Instr} (hP : P.payload → ArrivingInRange s)
    (hclaim : ∀ t, c = .claimFrame t → P.claim t) (h : exec c s = .next t) : Effect P s c t := by
  obtain ⟨t', ht', heffect⟩ := exec_completes hP c hclaim
  cases h.symm.trans ht'
  exact heffect

end Sys2Proof.Proofs
end

section
/-! Invariants of a step from invariants of its command, and the shapes of the commands that change more than moves
do: arrivals, the mask requests, RESTART, and the image load. -/

open Sys2Proof Sys2Proof.Machine

namespace Sys2Proof.Proofs

/-! ## From commands to steps -/

/-- What every command makes true, and an idle router keeps, every step makes true. -/
theorem step_of_exec {J I : State → Prop} (hpending : ∀ s q, J s → J { s with pending := q })
    (hidle : ∀ s, J s → I s) (hexec : ∀ c s t, J s → exec c s = .next t → I t) {s t : State} (hs : J s)
    (h : step s = .next t) : I t := by
  unfold step at h
  split at h
  · cases h
    exact hidle s hs
  · next c rest _ => exact hexec c _ t (hpending s rest hs) h

/-- Every command keeps `I`, so every step does. -/
theorem step_keeps {I : State → Prop} (hpending : ∀ s q, I s → I { s with pending := q })
    (hexec : ∀ c s t, I s → exec c s = .next t → I t) (s t : State) (hs : I s) (h : step s = .next t) : I t :=
  step_of_exec hpending (fun _ => id) hexec hs h

/-! ## Arrivals -/

theorem endEvent_proceeds {P : Leave} (s : State) (n : SourceLink) (p : PassedEvent) (hlink : P.link (sourceLink n)) :
    Proceeds P { s with arriving := s.arriving.set n none } (s.endEvent n p) := by
  unfold State.endEvent
  dsimp only
  split
  · exact .finishFrame _ _ _ (.inl hlink)
  · exact .refl _

/-- What moves make of a state, and changes of pointers and latches keep, an arrival makes of it. -/
theorem Arrived.ind {P : Leave} {s b : State} {I : State → Prop} (h : Arrived P s b)
    (hmoves : ∀ m, Delivers P s m → I m) (hpointers : ∀ m p, I m → I { m with pointers := p })
    (hlatches : ∀ m l, I m → I { m with latches := l }) : I b := by
  rcases h with ⟨m, pointers, hm, rfl⟩ | ⟨i, o, -, rfl⟩
  · exact hpointers m pointers (hmoves m hm)
  · exact hlatches s _ (hmoves s (.refl s))

/-! ## Mask requests -/

/-- `Remasked P s b`: the state `b` comes from `s` by a change of the masks, the latches and the current request, and
then by moves. -/
def Remasked (P : Leave) (s b : State) : Prop :=
  ∃ maskMap latches current,
    Proceeds P { s with maskMap := maskMap, latches := latches, current := current } b

theorem Remasked.of_proceeds {P : Leave} {s b : State} (h : Proceeds P s b) : Remasked P s b :=
  ⟨s.maskMap, s.latches, s.current, h⟩

theorem maskNext_remasked {P : Leave} (s : State) (m : MaskRun) : Remasked P s (s.maskNext m) := by
  unfold State.maskNext
  dsimp only
  split
  · exact ⟨_, s.latches, _, .refl _⟩
  · exact ⟨_, s.latches, _, .answer _ _ (by simp [Reply.ok]) _⟩

theorem unmaskOn_remasked {P : Leave} (s : State) (u : UnmaskRun) (pace : Nat) :
    Remasked P s (s.unmaskOn u pace) := by
  induction pace generalizing s u with
  | zero => exact ⟨s.maskMap, s.latches, _, .refl _⟩
  | succ pace ih =>
    unfold State.unmaskOn
    split
    · exact ⟨s.maskMap, s.latches, _, .answer _ _ (by simp [Reply.ok, UnmaskRun.result]) _⟩
    · split
      · next i _ _ =>
        obtain ⟨maskMap, latches, current, h⟩ := ih (s.takeIndex u i).1 (s.takeIndex u i).2
        exact ⟨maskMap, latches, current, h⟩
      · exact ⟨s.maskMap, s.latches, _, .refl _⟩

theorem startMask_remasked {P : Leave} (r : Request) (s : State) : Remasked P s (State.startMask r s) := by
  unfold State.startMask
  split
  · split
    · exact ⟨s.maskMap, s.latches, _, .refl _⟩
    · exact .of_proceeds (fail_proceeds ..)
  · exact .of_proceeds (fail_proceeds ..)

theorem startUnmask_remasked {P : Leave} (pace : Nat) (r : Request) (s : State) :
    Remasked P s (State.startUnmask pace r s) := by
  unfold State.startUnmask
  split
  · split
    · exact unmaskOn_remasked ..
    · exact .of_proceeds (fail_proceeds ..)
  · exact .of_proceeds (fail_proceeds ..)

theorem startRestart_remasked {P : Leave} (r : Request) (s : State) :
    Remasked P { s with queue := [] } (State.startRestart r s) ∨ Remasked P s (State.startRestart r s) := by
  unfold State.startRestart
  split
  · exact .inl ⟨s.maskMap, s.latches, _, .refl _⟩
  · exact .inr (.of_proceeds (fail_proceeds ..))

/-! ## RESTART (R178) -/

theorem voidOffer_delivers {P : Leave} (s : State) (t : TargetNo) : Delivers P s (s.voidOffer t) := by
  unfold State.voidOffer
  split
  · split
    · exact .post s _ OutFrame.noConfusion (Delivers.fits_of_length_le_two one_le_two)
    · exact .refl s
  · exact .refl s

theorem voidOffers_delivers {P : Leave} (ts : List TargetNo) (s : State) :
    Delivers P s (ts.foldl State.voidOffer s) := by
  induction ts generalizing s with
  | nil => exact .refl s
  | cons t ts ih => exact (voidOffer_delivers s t).trans (ih _)

/-- A step of a RESTART does one handling, and then changes the current request, or answers. -/
theorem restartNext_remasked {P : Leave} (s : State) (run : RestartRun) :
    s.restartNext run = s ∨ ∃ p current, Proceeds P { s.restartPart p with current := current } (s.restartNext run) := by
  unfold State.restartNext
  split
  · next p _ =>
    refine .inr ⟨p, ?_⟩
    dsimp only
    split
    · exact ⟨none, (Proceeds.draws { s.restartPart p with current := none } _).trans (.answer _ _ (Nat.zero_le _) _)⟩
    · exact ⟨_, .draws { s.restartPart p with
        current := some (.restart { request := run.request, left := run.left.erase p }) } _⟩
  · exact .inl rfl

end Sys2Proof.Proofs
end

section
/-! What each command can do to the part of the state that no delivery, fault or session operation touches: the
tables, the masks, the current request, the arrivals in progress, and the image store. -/

open Sys2Proof Sys2Proof.Machine

namespace Sys2Proof.Proofs

/-! ## The changes of the still part -/

/-- The commands that go on with a MASK or an UNMASK (R68, R70). -/
def IsMaskCommand (c : Instr) : Prop :=
  c = .maskRange ∨ (∃ pace, c = .unmaskRange pace) ∨ ∃ order pace, c = .release order pace

/-- `StillMoves s c x`: the command `c` may leave the still part `x` in the state `s`. -/
inductive StillMoves (s : State) : Instr → Still → Prop where
  | keep (c : Instr) (draws : Nat) : StillMoves s c { s.still with draws := draws }
  | reset : StillMoves s .fullReset
      { s.still with
        loading := true, active := .a, copyState := .idle, frozen := false, maskMap := Vector.replicate 512 false,
        current := none, saveRecord := none, slots := s.slotsAfterReset, saving := none,
        arriving := Vector.replicate 12 none, presented := none }
  | load (im : Image) (loaded : Option LoadedImage) (hload : s.loading = true)
      (him : im = Image.start ∨ ∃ (k : ImageSlot) (g : Word), s.slots[k].image = some (g, im)) :
      StillMoves s .imageLoad
        { s.still with
          loading := false, bankA := im.table, bankB := im.table, active := .a, maskMap := im.maskMap,
          timers := im.timers, summary := #v[s.slots[0].image.map Prod.fst, s.slots[1].image.map Prod.fst],
          loaded := loaded }
  | arriving (n : SourceLink) (order : List TargetNo) (p : Option PassedEvent) (hload : s.loading = false)
      (draws : Nat) (hp : ∀ q ∈ p, q.session = s.links[sourceLink n].session ∧
        s.links[sourceLink n].ingress.find? InFrame.isEvent = some (.event q.event q.payload)) :
      StillMoves s (.externalArrival n order) { s.still with arriving := s.arriving.set n p, draws := draws }
  | presented (order : List TargetNo) (p : Option Raised) (hload : s.loading = false) :
      StillMoves s (.internalArrival order) { s.still with presented := p }
  | masks (c : Instr) (hc : IsMaskCommand c) (maskMap : Vector Bool 512) (current : Option CurrentRequest)
      (draws : Nat) : StillMoves s c { s.still with maskMap := maskMap, current := current, draws := draws }
  | restart (current : Option CurrentRequest) (draws : Nat) :
      StillMoves s .restart { s.still with current := current, draws := draws }
  | copied (hcopying : s.copyState = .copying) :
      StillMoves s .copyPhaseEnd
        { (s.setBank s.active.other s.activeBank).still with copyState := .idle }
  | timers (timers : Vector TimerRecord 4) (draws : Nat) (hfrozen : s.frozen = false)
      (hlegal : (∀ t : TargetNo, s.timers[t].legal) → ∀ t : TargetNo, timers[t].legal) :
      StillMoves s .setLink { s.still with timers := timers, draws := draws }
  | freeze (draws : Nat) (hcopy : s.copyState ≠ .copying) (hsaving : s.saving = none) :
      StillMoves s .freeze { s.still with frozen := true, draws := draws }
  | write (c : Instr) (hc : c = .writeEntry ∨ c = .writeWindow) (b : Bank) (draws : Nat) (hfrozen : s.frozen = false)
      (hcopy : s.copyState ≠ .copying) (hlegal : BankLegal s.stagingBank → BankLegal b) :
      StillMoves s c { (s.setBank s.active.other b).still with draws := draws }
  | commit (copyState : CopyState) (draws : Nat) (hfrozen : s.frozen = false) (hcopy : s.copyState ≠ .copying)
      (hsaving : s.saving = none) :
      StillMoves s .commit { s.still with active := s.active.other, copyState := copyState, draws := draws }
  | startSave (r : Request) (hfrozen : s.frozen = false) (hcopy : s.copyState ≠ .copying) (hsaving : s.saving = none)
      (hspent : s.generationsSpent = false) : StillMoves s .saveTables (s.startSave r).still
  | saveEnd (contents : Option SlotContents) (check : Option Word) (run : SaveRun) (hrun : s.saving = some run)
      (slot : Slot) (summary : Option Word) (hsummary : ImageLegal run.snapshot → summary = slot.image.map Prod.fst) :
      StillMoves s (.saveEnd contents check)
        { s.still with
          saving := none, saveRecord := none, slots := s.slots.set run.slot slot,
          summary := s.summary.set run.slot summary }

/-! ## The requests that write tables and link records -/

theorem setLink_cases (operands : List Byte) (s : State) :
    (State.setLink operands s).1 = s ∨ ∃ l record timer, s.frozen = false ∧ record.legal = true ∧
      (∀ x ∈ timer, TimerRecord.legal x = true) ∧ (State.setLink operands s).1 = s.writeLink l record timer := by
  unfold State.setLink
  split
  · split
    · exact .inl rfl
    · next hfrozen =>
      split
      · exact .inl rfl
      · next l _ =>
        dsimp only
        split
        · exact .inl rfl
        · next record hrecord =>
          split
          · exact .inl rfl
          · exact .inr ⟨l, record, _, by simpa using hfrozen, (LinkRecord.code_of_ofCode hrecord).1,
              fun x hx => (TimerRecord.code_of_ofCode hx).1, rfl⟩
  · exact .inl rfl

theorem freeze_cases (operands : List Byte) (s : State) :
    (State.freeze operands s).1 = s ∨ s.copyState ≠ .copying ∧ s.saving = none ∧
      (State.freeze operands s).1 = { s with frozen := true } := by
  unfold State.freeze
  split
  · split
    · exact .inl rfl
    · next h => exact .inr ⟨by simp_all, by simp_all, rfl⟩
  · exact .inl rfl

theorem tableBarred_none {s : State} (h : s.tableBarred = none) : s.frozen = false ∧ s.copyState ≠ .copying := by
  unfold State.tableBarred at h
  split at h
  · cases h
  · split at h
    · cases h
    · next hfrozen hcopy => exact ⟨by simpa using hfrozen, hcopy⟩

theorem legalEntries_legal {codes : List Word} {es : List Entry} (h : legalEntries codes = some es) :
    ∀ e ∈ es, e.legal = true := by
  induction codes generalizing es with
  | nil =>
    cases h
    simp
  | cons c rest ih =>
    unfold legalEntries at h
    split at h
    · next e es' he hes =>
      cases h
      intro x hx
      rcases List.mem_cons.1 hx with rfl | hx
      · exact (Entry.code_of_ofCode he).1
      · exact ih hes x hx
    · cases h

theorem writeEntries_legal {es : List Entry} (hes : ∀ e ∈ es, e.legal = true) {b : Vector Entry 512}
    (hb : ∀ i : Index, b[i].legal = true) (first : Nat) : ∀ i : Index, (writeEntries b first es)[i].legal = true := by
  induction es generalizing b first with
  | nil => exact hb
  | cons e es ih =>
    refine ih (fun x hx => hes x (List.mem_cons_of_mem e hx)) (fun i => ?_) _
    split
    · next hfirst =>
      rw [Fin.getElem_fin, Vector.getElem_set]
      split
      · exact hes e List.mem_cons_self
      · exact hb i
    · exact hb i

/-- A request that writes the table leaves the state, or writes a legal staging bank (R7 to R9). -/
def WritesBank (s b : State) : Prop :=
  b = s ∨ s.frozen = false ∧ s.copyState ≠ .copying ∧ ∃ bank : Bank, b = s.setBank s.active.other bank ∧
    (BankLegal s.stagingBank → BankLegal bank)

theorem writeEntry_writesBank (operands : List Byte) (s : State) : WritesBank s (State.writeEntry operands s).1 := by
  unfold State.writeEntry
  split
  · split
    · split
      · exact .inl rfl
      · split
        · exact .inl rfl
        · next hbarred =>
          dsimp only
          split
          · exact .inl rfl
          · split
            · next es hes =>
              obtain ⟨hfrozen, hcopy⟩ := tableBarred_none hbarred
              dsimp only
              exact .inr ⟨hfrozen, hcopy, _, rfl, fun ⟨hentries, hwindows⟩ =>
                ⟨writeEntries_legal (legalEntries_legal hes) hentries _, hwindows⟩⟩
            · exact .inl rfl
    · exact .inl rfl
  · exact .inl rfl

theorem writeWindow_writesBank (operands : List Byte) (s : State) :
    WritesBank s (State.writeWindow operands s).1 := by
  unfold State.writeWindow
  split
  · split
    · exact .inl rfl
    · next hbarred =>
      split
      · next n _ =>
        split
        · next w hw =>
          obtain ⟨hfrozen, hcopy⟩ := tableBarred_none hbarred
          dsimp only
          refine .inr ⟨hfrozen, hcopy, _, rfl, fun ⟨hentries, hwindows⟩ => ⟨hentries, fun m => ?_⟩⟩
          dsimp only
          rw [Fin.getElem_fin, Vector.getElem_set]
          split
          · exact (Window.code_of_ofCode hw).1
          · exact hwindows m
        · exact .inl rfl
      · exact .inl rfl
  · exact .inl rfl

theorem commit_cases (operands : List Byte) (s : State) :
    (State.commit operands s).1 = s ∨ s.frozen = false ∧ s.copyState ≠ .copying ∧ s.saving = none ∧
      ∃ copyState, (State.commit operands s).1 = { s with active := s.active.other, copyState := copyState } := by
  unfold State.commit
  split
  · split
    · exact .inl rfl
    · next hbarred =>
      obtain ⟨hfrozen, hcopy⟩ := tableBarred_none hbarred
      split
      · exact .inl rfl
      · next hsaving =>
        have hnone : s.saving = none := by simpa using hsaving
        split
        · exact .inr ⟨hfrozen, hcopy, hnone, _, rfl⟩
        · exact .inr ⟨hfrozen, hcopy, hnone, s.copyState, rfl⟩
        · exact .inl rfl
  · exact .inl rfl

theorem clearFaults_cases (operands : List Byte) (s : State) :
    (State.clearFaults operands s).1 = s ∨ ∃ n lost, lost ≤ s.lostFaults ∧
      (State.clearFaults operands s).1 = { s with faults := s.faults.drop n, lostFaults := lost } := by
  unfold State.clearFaults
  split
  · split
    · exact .inl rfl
    · split
      · next clear _ =>
        refine .inr ⟨_, _, ?_, rfl⟩
        split
        · exact Nat.zero_le _
        · exact le_rfl
      · exact .inl rfl
  · exact .inl rfl

/-! ## The end of a SAVE -/

theorem answerSave_delivers {P : Leave} (s : State) {status : Status} {results : List Byte}
    (h : results.length ≤ 46) : Delivers P { s with saveRecord := none } (s.answerSave status results) := by
  unfold State.answerSave
  split
  · next r _ =>
    have hhand : Delivers P { s with saveRecord := none } _ := .hand _ r.link r.session
      { frame := .response r.sequence status results, thenReset := false } OutFrame.noConfusion
      (.inl (Nat.add_le_add_right (Nat.add_le_add_right h 1) 1))
    exact hhand
  · next hnone =>
    have heq : ({ s with saveRecord := none } : State) = s := by rw [← hnone]
    rw [heq]
    exact .refl s

/-! ## The whole -/

theorem Arrived.still {P : Leave} {s b : State} (h : Arrived P s b) : b.still = s.still :=
  h.ind (I := fun x => x.still = s.still) (fun _ hm => hm.moves.still) (fun _ _ => id) (fun _ _ => id)

theorem Remasked.still {P : Leave} {s b : State} (h : Remasked P s b) : ∃ maskMap current draws,
    b.still = { s.still with maskMap := maskMap, current := current, draws := draws } := by
  obtain ⟨maskMap, latches, current, hb⟩ := h
  exact ⟨maskMap, current, b.draws, hb.still⟩

theorem StillMoves.of_remasked {P : Leave} {s a b : State} {c : Instr} (hc : IsMaskCommand c)
    (ha : a.still = s.still) (h : Remasked P a b) : StillMoves s c b.still := by
  obtain ⟨maskMap, current, draws, heq⟩ := h.still
  rw [heq, ha]
  exact .masks c hc maskMap current draws

theorem restartPart_still (s : State) (p : RestartPart) : (s.restartPart p).still = s.still := by
  cases p with
  | delivery =>
    rw [← (voidOffers_delivers (P := .any) (List.finRange 4) s).moves.still]
    simp only [State.restartPart, State.still]
  | latches => simp only [State.restartPart, State.still]
  | pointers => simp only [State.restartPart, State.still]

/-- The state in which the slots are tested and an image is handed to the blocks (R185, R186). -/
def imageLoaded (s : State) (im : Image) (loaded : Option LoadedImage) : State :=
  { ({ s with summary := #v[s.slots[0].image.map Prod.fst, s.slots[1].image.map Prod.fst] } : State).loadImage im with
    loaded := loaded }

/-- The image load hands over the image of a slot, or the start values, which is reported (R186, R187). -/
theorem execImageLoad_cases {s t : State} (hload : s.loading = true) (h : execImageLoad s = .next t) :
    (∃ (im : Image) (loaded : Option LoadedImage) (k : ImageSlot) (g : Word), s.slots[k].image = some (g, im) ∧
      t = imageLoaded s im loaded) ∨ t = (imageLoaded s Image.start none).report noImageFault false := by
  unfold execImageLoad at h
  rw [if_pos hload] at h
  dsimp only at h
  split at h
  · next slot generation im himage =>
    cases h
    refine .inl ⟨im, _, slot, generation, ?_, rfl⟩
    unfold chooseImage at himage
    split at himage
    · next g0 im0 g1 im1 h0 h1 =>
      split at himage
      · cases himage
        exact h1
      · cases himage
        exact h0
    · next g0 im0 h0 _ =>
      cases himage
      exact h0
    · next g1 im1 _ h1 =>
      cases himage
      exact h1
    · cases himage
  · cases h
    exact .inr rfl

theorem execImageLoad_still {s t : State} (hload : s.loading = true) (h : execImageLoad s = .next t) :
    StillMoves s .imageLoad t.still := by
  rcases execImageLoad_cases hload h with ⟨im, loaded, k, g, himage, rfl⟩ | rfl
  · exact .load im loaded hload (.inr ⟨k, g, himage⟩)
  · rw [State.report_still]
    exact .load Image.start none hload (.inl rfl)

theorem startRestart_still (r : Request) (s : State) : ∃ current draws,
    (State.startRestart r s).still = { s.still with current := current, draws := draws } := by
  unfold State.startRestart
  split
  · exact ⟨_, s.draws, rfl⟩
  · exact ⟨s.current, _, (fail_proceeds (P := .any) ..).still⟩

theorem writeLink_still (s : State) (l : LinkNo) (record : LinkRecord) (timer : Option TimerRecord)
    (htimer : ∀ x ∈ timer, TimerRecord.legal x = true) :
    ∃ timers, (s.writeLink l record timer).still = { s.still with timers := timers } ∧
      ((∀ t : TargetNo, s.timers[t].legal) → ∀ t : TargetNo, timers[t].legal) := by
  unfold State.writeLink
  dsimp only
  split
  · next t x _ =>
    refine ⟨s.timers.set t x, rfl, fun hs u => ?_⟩
    rw [Fin.getElem_fin, Vector.getElem_set]
    split
    · exact htimer x rfl
    · exact hs u
  · exact ⟨s.timers, rfl, id⟩

/-- A request that writes the table, then moves. -/
theorem StillMoves.of_writesBank {P : Leave} {s b t : State} {c : Instr} (hc : c = .writeEntry ∨ c = .writeWindow)
    (hb : WritesBank (dequeued s) b) (h : Proceeds P b t) : StillMoves s c t.still := by
  rw [h.still]
  rcases hb with rfl | ⟨hfrozen, hcopy, bank, rfl, hlegal⟩
  · exact .keep c _
  · have hset : ((dequeued s).setBank (dequeued s).active.other bank).still =
        (s.setBank s.active.other bank).still := by
      unfold State.setBank dequeued
      dsimp only
      split <;> rfl
    rw [hset]
    exact .write c hc bank _ hfrozen hcopy hlegal

/-- What every command can do to the still part. -/
theorem Effect.still {P : Leave} {s t : State} {c : Instr} (h : Effect P s c t) : StillMoves s c t.still := by
  cases h with
  | proceeds h => exact h.still ▸ .keep c _
  | fullReset h =>
    cases h
    exact .reset
  | imageLoad hload h => exact execImageLoad_still hload h
  | pass hfree hup hload hfind =>
    refine .arriving _ _ _ hload s.draws fun q hq => ?_
    cases hq
    exact ⟨rfl, hfind⟩
  | @takeEvent n order p a m hp hload ha hm =>
    have hend := (endEvent_proceeds (P := .any) m n p trivial).still
    have hstill : m.still = s.still := hm.moves.still.trans ha.still
    have hset : ({ m with arriving := m.arriving.set n none } : State).still =
        { m.still with arriving := m.still.arriving.set n none } := rfl
    rw [hend, hset, hstill]
    exact .arriving n order none hload _ fun q hq => by cases hq
  | present hfree hload hraised => exact .presented _ _ hload
  | takeRaised hx hload h =>
    rw [h.still]
    exact .presented _ none hload
  | release hu hlatch hload a outcome ha heq =>
    obtain ⟨maskMap, current, draws, hstill⟩ := (unmaskOn_remasked (P := .any) a _ _).still
    rw [hstill, ha.still]
    exact .masks _ (.inr (.inr ⟨_, _, rfl⟩)) maskMap current draws
  | maskNext hm hload => exact .of_remasked (.inl rfl) rfl (maskNext_remasked (P := .any) s _)
  | startMask hr => exact .of_remasked (.inl rfl) (a := dequeued s) rfl (startMask_remasked (P := .any) _ (dequeued s))
  | unmaskOn hu hwait hload => exact .of_remasked (.inr (.inl ⟨_, rfl⟩)) rfl (unmaskOn_remasked (P := .any) s _ _)
  | startUnmask hr =>
    exact .of_remasked (.inr (.inl ⟨_, rfl⟩)) (a := dequeued s) rfl
      (startUnmask_remasked (P := .any) _ _ (dequeued s))
  | restartNext hrun hload =>
    rcases restartNext_remasked (P := .any) s _ with h | ⟨p, current, h⟩
    · rw [h]
      exact .keep _ s.draws
    · rw [h.still]
      have hset : ({ s.restartPart p with current := current } : State).still =
          { (s.restartPart p).still with current := current } := rfl
      rw [hset, restartPart_still]
      exact .restart current _
  | startRestart hr =>
    rcases startRestart_still _ (dequeued s) with ⟨current, draws, h⟩
    rw [h]
    exact .restart current draws
  | copyPhaseEnd hcopying h =>
    unfold execCopyPhaseEnd at h
    rw [if_pos hcopying] at h
    cases h
    rw [State.notice, State.raiseEvent_still]
    exact .copied hcopying
  | setLink h =>
    rw [h.still]
    rcases setLink_cases _ (dequeued s) with heq | ⟨l, record, timer, hfrozen, -, htimer, heq⟩ <;> rw [heq]
    · exact .keep _ _
    · obtain ⟨timers, hstill, hlegal⟩ := writeLink_still (dequeued s) l record timer htimer
      rw [hstill]
      exact .timers timers _ hfrozen hlegal
  | freeze h =>
    rw [h.still]
    rcases freeze_cases _ (dequeued s) with heq | ⟨hcopy, hsaving, heq⟩ <;> rw [heq]
    · exact .keep _ _
    · exact .freeze _ hcopy hsaving
  | writeEntry h => exact .of_writesBank (.inl rfl) (writeEntry_writesBank _ _) h
  | writeWindow h => exact .of_writesBank (.inr rfl) (writeWindow_writesBank _ _) h
  | commit h =>
    rw [h.still]
    rcases commit_cases _ (dequeued s) with heq | ⟨hfrozen, hcopy, hsaving, copyState, heq⟩ <;> rw [heq]
    · exact .keep _ _
    · exact .commit copyState _ hfrozen hcopy hsaving
  | clearFaults h =>
    rw [h.still]
    rcases clearFaults_cases _ (dequeued s) with heq | ⟨n, lost, -, heq⟩ <;> rw [heq]
    · exact .keep _ _
    · exact .keep _ _
  | startSave hfrozen hcopy hsaving hspent => exact .startSave _ hfrozen hcopy hsaving hspent
  | @saveDone contents check run hrun =>
    unfold State.saveDone State.notice
    rw [State.raiseEvent_still, (answerSave_delivers (P := .any) _ (by simp)).moves.still]
    exact .saveEnd contents check run hrun _ _ fun hlegal => by rw [written_image _ hlegal]; rfl
  | @saveFailed contents check run hrun readBack =>
    unfold State.saveFailed
    rw [State.report_still, (answerSave_delivers (P := .any) _ (Nat.zero_le _)).moves.still]
    exact .saveEnd contents check run hrun _ _ fun _ => by rw [image_of_check_none rfl]; rfl
  | admitted hup hload hroom h => exact h.still ▸ .keep _ _

end Sys2Proof.Proofs
end

section
/-! One induction for invariants of the pool, the targets, the faults, the links and the queue: what holds after
every move, and after the few changes that are not moves, holds after every command. -/

open Sys2Proof Sys2Proof.Machine

namespace Sys2Proof.Proofs

/-- The payloads that come from outside the pool are in range. -/
def Leave.inRange : Leave :=
  { Leave.any with payload := True }

/-- What a command does, whatever it leaves. -/
theorem exec_any {s t : State} {c : Instr} (h : exec c s = .next t) : Effect .any s c t :=
  exec_effect False.elim (fun _ _ => trivial) h

/-- The part of the state that moves can change. -/
structure Moving where
  records : List Record
  targets : Vector Target 4
  faults : List FaultRecord
  lostFaults : Nat
  raised : List Raised
  links : Vector Link 16
  queue : List Request

/-- The moving part of a state. -/
def moving (s : State) : Moving :=
  { records := s.records, targets := s.targets, faults := s.faults, lostFaults := s.lostFaults, raised := s.raised,
    links := s.links, queue := s.queue }

theorem moving_eq {a b : State} (h : moving b = moving a) :
    b.records = a.records ∧ b.targets = a.targets ∧ b.faults = a.faults ∧ b.lostFaults = a.lostFaults ∧
      b.raised = a.raised ∧ b.links = a.links ∧ b.queue = a.queue := by
  simpa only [moving, Moving.mk.injEq] using h

/-- The state after the delivery handling of a RESTART, but for the VOID frames (R40, R93, R126). -/
def restarted (s : State) : State :=
  { s with
    records := []
    targets := Vector.ofFn fun t : TargetNo => Target.restart (s.isUp (targetLink t)) s.targets[t] }

/-- The state in which a request of a link has joined the queue (R167). -/
def requested (s : State) (l : LinkNo) (sequence operation : Byte) (operands : List Byte) : State :=
  { s with
    queue := s.queue ++
      [{ link := l, session := s.links[l].session, sequence := sequence, operation := operation,
         operands := operands }] }

/-- `Kept P I`: moves keep `I`, it is about the moving part alone, and the changes of that part that are not moves
keep it. -/
structure Kept (P : Leave) (I : State → Prop) : Prop where
  proceeds : ∀ {a b : State}, Proceeds P a b → I a → I b
  moving : ∀ {a b : State}, I a → moving b = moving a → I b
  raise : ∀ (a : State) (e : RouterEvent) (w : Word), I a → I (a.raiseEvent e w)
  present : ∀ (a : State) (x : Raised) (rest : List Raised), a.raised = x :: rest → I a → I { a with raised := rest }
  restart : ∀ a : State, I a → I (restarted a)

/-- `Rare s c t I`: the changes of the moving part that few commands make keep `I` from the state `s` to the state `t`:
a full reset, the image load, the end of an EVENT in progress, the admission of a request, the link record that a
SET_LINK writes, and the records that a CLEAR_FAULTS removes. -/
structure Rare (s : State) (c : Instr) (t : State) (I : State → Prop) : Prop where
  reset : c = .fullReset → execFullReset s = .next t → I t
  load : c = .imageLoad → s.loading = true → execImageLoad s = .next t → I t
  event : ∀ n p m, s.loading = false → s.arriving[n] = some p → t = m.endEvent n p → I m → I t
  admitted : ∀ l sequence operation operands, s.isUp l = true → s.loading = false → s.admits l = true →
    I (requested s l sequence operation operands)
  record : ∀ l r, s.frozen = false → LinkRecord.legal r = true → I (dequeued s) →
    I ((dequeued s).withLink l { s.links[l] with record := r })
  clear : c = .clearFaults → ∀ n lost, lost ≤ s.lostFaults → I (dequeued s) →
    I { dequeued s with faults := s.faults.drop n, lostFaults := lost }

theorem voidOffer_targets (s : State) (t : TargetNo) : (s.voidOffer t).targets = s.targets := by
  unfold State.voidOffer
  split
  · split
    · exact State.post_targets ..
    · rfl
  · rfl

theorem voidOffers_targets (s : State) : ((List.finRange 4).foldl State.voidOffer s).targets = s.targets :=
  foldl_keeps State.voidOffer State.targets voidOffer_targets (List.finRange 4) s

theorem restartPart_delivery (s : State) :
    s.restartPart .delivery = restarted ((List.finRange 4).foldl State.voidOffer s) := by
  have hup := fun l => (voidOffers_delivers (P := .any) (List.finRange 4) s).moves.isUp l
  unfold State.restartPart restarted
  simp only [hup, voidOffers_targets]

namespace Kept

variable {P : Leave} {I : State → Prop} (hI : Kept P I)
include hI

theorem of_arrived {s b : State} (h : Arrived P s b) (hs : I s) : I b :=
  h.ind (fun _ hm => hI.proceeds (.delivers hm) hs) (fun _ _ h => hI.moving h rfl) (fun _ _ h => hI.moving h rfl)

theorem of_endEvent {s : State} (n : SourceLink) (p : PassedEvent) (hlink : P.link (sourceLink n)) (hs : I s) :
    I (s.endEvent n p) :=
  hI.proceeds (endEvent_proceeds s n p hlink) (hI.moving hs rfl)

theorem of_remasked {s b : State} (h : Remasked P s b) (hs : I s) : I b := by
  obtain ⟨maskMap, latches, current, hb⟩ := h
  exact hI.proceeds hb (hI.moving hs rfl)

theorem of_restartPart {s : State} (p : RestartPart) (hs : I s) : I (s.restartPart p) := by
  cases p with
  | delivery =>
    rw [restartPart_delivery]
    exact hI.restart _ (hI.proceeds (.delivers (voidOffers_delivers ..)) hs)
  | latches => exact hI.moving hs (by simp only [State.restartPart, Proofs.moving])
  | pointers => exact hI.moving hs (by simp only [State.restartPart, Proofs.moving])

theorem of_dequeued {s : State} (hs : I s) : I (dequeued s) :=
  hI.proceeds (.queue s _ (List.tail_sublist _)) hs

theorem of_writesBank {s b : State} (h : WritesBank s b) (hs : I s) : I b := by
  rcases h with rfl | ⟨-, -, bank, rfl, -⟩
  · exact hs
  · refine hI.moving hs ?_
    unfold State.setBank
    split <;> rfl

/-- What is kept by moves and by the other changes is kept by every command. -/
theorem of_effect {s t : State} {c : Instr} (h : Effect P s c t) (hs : I s) (hrare : Rare s c t I) : I t := by
  cases h with
  | proceeds h => exact hI.proceeds h hs
  | fullReset h => exact hrare.reset rfl h
  | imageLoad hloading h => exact hrare.load rfl hloading h
  | pass _ _ _ _ => exact hI.moving hs rfl
  | takeEvent hp hload ha hm => exact hrare.event _ _ _ hload hp rfl (hI.proceeds (.delivers hm) (hI.of_arrived ha hs))
  | present _ _ hraised => exact hI.moving (hI.present s _ _ hraised hs) rfl
  | takeRaised _ _ h => exact hI.of_arrived h (hI.moving hs rfl)
  | release _ _ _ a _ ha _ => exact hI.of_remasked (unmaskOn_remasked ..) (hI.of_arrived ha hs)
  | maskNext _ _ => exact hI.of_remasked (maskNext_remasked ..) hs
  | startMask _ => exact hI.of_remasked (startMask_remasked ..) (hI.of_dequeued hs)
  | unmaskOn _ _ _ => exact hI.of_remasked (unmaskOn_remasked ..) hs
  | startUnmask _ => exact hI.of_remasked (startUnmask_remasked ..) (hI.of_dequeued hs)
  | @restartNext run _ _ =>
    rcases restartNext_remasked (P := P) s run with h | ⟨p, current, h⟩
    · rw [h]
      exact hs
    · exact hI.proceeds h (hI.moving (hI.of_restartPart p hs) rfl)
  | startRestart _ =>
    rcases startRestart_remasked (P := P) _ (dequeued s) with h | h
    · exact hI.of_remasked h (hI.proceeds (.queue s [] (List.nil_sublist _)) hs)
    · exact hI.of_remasked h (hI.of_dequeued hs)
  | copyPhaseEnd hcopying h =>
    unfold execCopyPhaseEnd at h
    rw [if_pos hcopying] at h
    cases h
    refine hI.raise _ _ _ (hI.moving hs ?_)
    unfold State.setBank
    split <;> rfl
  | setLink h =>
    refine hI.proceeds h ?_
    rcases setLink_cases _ (dequeued s) with heq | ⟨l, record, timer, hfrozen, hlegal, -, heq⟩ <;> rw [heq]
    · exact hI.of_dequeued hs
    · refine hI.moving (hrare.record l record hfrozen hlegal (hI.of_dequeued hs)) ?_
      unfold State.writeLink
      dsimp only
      split <;> rfl
  | freeze h =>
    refine hI.proceeds h ?_
    rcases freeze_cases _ (dequeued s) with heq | ⟨-, -, heq⟩ <;> rw [heq]
    · exact hI.of_dequeued hs
    · exact hI.moving (hI.of_dequeued hs) rfl
  | writeEntry h => exact hI.proceeds h (hI.of_writesBank (writeEntry_writesBank ..) (hI.of_dequeued hs))
  | writeWindow h => exact hI.proceeds h (hI.of_writesBank (writeWindow_writesBank ..) (hI.of_dequeued hs))
  | commit h =>
    refine hI.proceeds h ?_
    rcases commit_cases _ (dequeued s) with heq | ⟨-, -, -, _, heq⟩ <;> rw [heq]
    · exact hI.of_dequeued hs
    · exact hI.moving (hI.of_dequeued hs) rfl
  | clearFaults h =>
    refine hI.proceeds h ?_
    rcases clearFaults_cases _ (dequeued s) with heq | ⟨n, lost, hlost, heq⟩ <;> rw [heq]
    · exact hI.of_dequeued hs
    · exact hrare.clear rfl n lost hlost (hI.of_dequeued hs)
  | startSave _ _ _ _ => exact hI.moving (hI.of_dequeued hs) rfl
  | saveDone _ =>
    exact hI.raise _ _ _ (hI.proceeds (.delivers (answerSave_delivers _ (by simp))) (hI.moving hs rfl))
  | saveFailed _ _ =>
    exact hI.proceeds ((Proceeds.delivers (answerSave_delivers _ (Nat.zero_le _))).trans (.report ..))
      (hI.moving hs rfl)
  | admitted hup hloading hroom h => exact hI.proceeds h (hrare.admitted _ _ _ _ hup hloading hroom)

end Kept

end Sys2Proof.Proofs
end

section
/-! Invariants that follow from what every command can do: the Fault Unit, the ranges of records and frames, the
tables, the long operations, the image store, and what only a few commands change. -/

open Sys2Proof Sys2Proof.Machine

namespace Sys2Proof.Proofs

/-! ## The commands -/

theorem StillMoves.pending {s : State} {c : Instr} {x : Still} (h : StillMoves s c x) : x.pending = s.pending := by
  cases h with
  | copied | write =>
    unfold State.setBank
    split <;> rfl
  | _ => rfl

/-- Settles O2: every command answers by one of the cases of `Effect`, none of which touches the waiting commands. -/
theorem everyCommandCompletes : Obligations.EveryCommandCompletes := by
  intro c s
  obtain ⟨t, ht, heffect⟩ := exec_completes (P := .any) (s := s) False.elim c fun _ _ => trivial
  exact ⟨t, ht, heffect.still.pending⟩

/-! ## The Fault Unit -/

theorem faultBounds_kept : Kept .any FaultBounds where
  proceeds := Proceeds.faultBounds
  moving ha h := by
    obtain ⟨-, -, hfaults, hlost, hraised, -, -⟩ := moving_eq h
    unfold FaultBounds
    rwa [hfaults, hlost, hraised]
  raise _ e w ha := ha.raiseEvent e w
  present a x rest hraised := by
    rintro ⟨hfaults, hlost, hnodup⟩
    rw [hraised, List.map_cons, List.nodup_cons] at hnodup
    exact ⟨hfaults, hlost, hnodup.2⟩
  restart _ ha := ha

theorem faultBounds_effect {s t : State} {c : Instr} (h : Effect .any s c t) : FaultBounds s → FaultBounds t := by
  refine fun hs => faultBounds_kept.of_effect h hs
    { reset := ?_, load := ?_, event := ?_, admitted := ?_, record := ?_, clear := ?_ }
  · rintro - ⟨⟩
    exact ⟨Nat.zero_le _, Nat.zero_le _, List.nodup_nil⟩
  · intro _ hload hb
    rcases execImageLoad_cases hload hb with ⟨im, loaded, _, _, -, rfl⟩ | rfl
    · exact hs
    · exact FaultBounds.report (s := imageLoaded s Image.start none) hs _ _
  · rintro n p m - - rfl
    exact faultBounds_kept.of_endEvent n p trivial
  · exact fun _ _ _ _ _ _ _ => hs
  · exact fun _ _ _ _ => id
  · rintro - n lost hle ⟨hfaults, hlost, hnodup⟩
    exact ⟨(List.drop_sublist n s.faults).length_le.trans hfaults, hle.trans hlost, hnodup⟩

/-- No internal arrival comes to be in progress during the image load (R133, R139). -/
theorem StillMoves.presented_none {s : State} {c : Instr} {x : Still} (h : StillMoves s c x)
    (hs : s.loading = true → s.presented = none) : x.loading = true → x.presented = none := by
  cases h with
  | reset => exact fun _ => rfl
  | load => exact Bool.noConfusion
  | presented order p hload => exact fun hx => absurd (hload.symm.trans hx) Bool.noConfusion
  | copied | write =>
    unfold State.setBank
    split <;> exact hs
  | _ => exact hs

/-- Settles O11: reports and raises keep the bounds, and an arrival is presented outside the image load alone. -/
theorem faultUnitStaysSound : Obligations.FaultUnitStaysSound := by
  refine step_keeps (I := FaultUnitSound) (fun _ _ => id) fun c s t hs h => ?_
  obtain ⟨hfaults, hlost, hraised, hpresented⟩ := hs
  have heffect := exec_any h
  obtain ⟨hfaults', hlost', hraised'⟩ := faultBounds_effect heffect ⟨hfaults, hlost, hraised⟩
  exact ⟨hfaults', hlost', hraised', heffect.still.presented_none hpresented⟩

/-! ## The ranges of records and frames -/

/-- Records and the payloads of waiting frames are in range (R23, R42). -/
def PayloadsInRange (s : State) : Prop :=
  PoolInRange s ∧ ∀ l : LinkNo, IngressFits s.links[l]

theorem payloads_kept : Kept .inRange PayloadsInRange where
  proceeds h := And.imp (h.poolInRange trivial) h.ingressFits
  moving ha h := by
    obtain ⟨hrecords, -, -, -, -, hlinks, -⟩ := moving_eq h
    unfold PayloadsInRange PoolInRange
    rwa [hrecords, hlinks]
  raise a e w ha := by
    unfold PayloadsInRange PoolInRange
    rwa [State.raiseEvent_records, State.raiseEvent_links]
  present _ _ _ _ ha := ha
  restart a ha := ⟨fun r hr => absurd hr List.not_mem_nil, ha.2⟩

theorem imageLoaded_link (s : State) (im : Image) (loaded : Option LoadedImage) (l : LinkNo) :
    (imageLoaded s im loaded).links[l] = { s.links[l] with record := im.records[l] }.calling l := by
  unfold imageLoaded State.loadImage
  dsimp only
  rw [Fin.getElem_fin, Vector.getElem_ofFn, Link.enterTraining_eq]

/-- What the image load keeps of links, whatever their new records. -/
theorem execImageLoad_link {s t : State} (hload : s.loading = true) (h : execImageLoad s = .next t) (l : LinkNo) :
    ∃ record, t.links[l] = { s.links[l] with record := record }.calling l := by
  rcases execImageLoad_cases hload h with ⟨im, loaded, _, _, -, rfl⟩ | rfl
  · exact ⟨im.records[l], imageLoaded_link ..⟩
  · refine ⟨Image.start.records[l], ?_⟩
    rw [State.report_links]
    exact imageLoaded_link ..

theorem execImageLoad_records {s t : State} (hload : s.loading = true) (h : execImageLoad s = .next t) :
    t.records = s.records := by
  rcases execImageLoad_cases hload h with ⟨im, loaded, _, _, -, rfl⟩ | rfl
  · rfl
  · exact State.report_records ..

theorem fullReset_link {s t : State} (h : execFullReset s = .next t) (l : LinkNo) :
    t.links[l] = Link.reset s.links[l].record s.links[l].session s.links[l].sent := by
  cases h
  simp

theorem payloads_effect {s t : State} {c : Instr} (h : Effect .inRange s c t) :
    PayloadsInRange s → PayloadsInRange t := by
  refine fun hs => payloads_kept.of_effect h hs
    { reset := ?_, load := ?_, event := ?_, admitted := ?_, record := ?_, clear := ?_ }
  · intro _ hb
    refine ⟨?_, fun l => ?_⟩
    · cases hb
      exact fun r hr => absurd hr List.not_mem_nil
    · rw [fullReset_link hb]
      exact fun f hf => absurd hf List.not_mem_nil
  · intro _ hload hb
    refine ⟨?_, fun l => ?_⟩
    · rw [PoolInRange, execImageLoad_records hload hb]
      exact hs.1
    · obtain ⟨record, hlink⟩ := execImageLoad_link hload hb l
      rw [hlink]
      exact hs.2 l
  · rintro n p m - - rfl
    exact payloads_kept.of_endEvent n p trivial
  · exact fun _ _ _ _ _ _ _ => hs
  · exact fun l r _ _ ha => ⟨ha.1, withLink_forall (C := fun _ => IngressFits) (ha.2 l) ha.2⟩
  · exact fun _ _ _ _ => id

/-- An EVENT frame in progress came from a buffer, or was in progress before. -/
theorem StillMoves.arrivingInRange {s : State} {c : Instr} {x : Still} (h : StillMoves s c x)
    (hs : ArrivingInRange s) (hlinks : ∀ l : LinkNo, IngressFits s.links[l]) (n : SourceLink) :
    ∀ p ∈ x.arriving[n], p.payload.length ≤ 2 := by
  cases h with
  | reset => simp
  | arriving m order q hload draws hq =>
    intro p hp
    rw [Fin.getElem_fin, Vector.getElem_set] at hp
    split at hp
    · exact hlinks _ _ (List.mem_of_find?_eq_some (hq p hp).2)
    · exact hs n p hp
  | copied | write =>
    unfold State.setBank
    split <;> exact hs n
  | _ => exact hs n

/-- Settles O18: a record enters the pool in range and is folded within it, and payloads come from frames of at most
two words. -/
theorem recordsStayInRange : Obligations.RecordsStayInRange := by
  refine step_keeps (I := RecordsSound) (fun _ _ => id) fun c s t hs h => ?_
  obtain ⟨hpool, hingress, harriving⟩ := hs
  have heffect := exec_effect (P := .inRange) (fun _ => harriving) (fun _ _ => trivial) h
  obtain ⟨hpool', hingress'⟩ := payloads_effect heffect ⟨hpool, hingress⟩
  exact ⟨hpool', hingress', heffect.still.arrivingInRange harriving hingress⟩

/-- Waiting frames are within the 48 bytes of a body, and records are in range (R23, R196). -/
def FramesInSize (s : State) : Prop :=
  PoolInRange s ∧ ∀ l : LinkNo, TransmitFits s.links[l]

theorem frames_kept : Kept .inRange FramesInSize where
  proceeds h ha := ⟨h.poolInRange trivial ha.1, h.transmitFits trivial ha.1 ha.2⟩
  moving ha h := by
    obtain ⟨hrecords, -, -, -, -, hlinks, -⟩ := moving_eq h
    unfold FramesInSize PoolInRange
    rwa [hrecords, hlinks]
  raise a e w ha := by
    unfold FramesInSize PoolInRange
    rwa [State.raiseEvent_records, State.raiseEvent_links]
  present _ _ _ _ ha := ha
  restart a ha := ⟨fun r hr => absurd hr List.not_mem_nil, ha.2⟩

/-- Settles O19: every frame is handed over with a short body, as the results of a request of at most 46 bytes, or as
the OFFER of a record in range. -/
theorem framesStayInSize : Obligations.FramesStayInSize := by
  intro s t hrecords hframes
  refine step_of_exec (J := fun s => RecordsSound s ∧ FramesSound s) (I := FramesSound) (fun _ _ => id)
    (fun _ => And.right) (fun c s t hs h => ?_) ⟨hrecords, hframes⟩
  obtain ⟨⟨hpool, -, harriving⟩, htransmit⟩ := hs
  have heffect := exec_effect (P := .inRange) (fun _ => harriving) (fun _ _ => trivial) h
  have hs : FramesInSize s := ⟨hpool, htransmit⟩
  refine (frames_kept.of_effect heffect hs
    { reset := ?_, load := ?_, event := ?_, admitted := ?_, record := ?_, clear := ?_ }).2
  · intro _ hb
    refine ⟨?_, fun l => ?_⟩
    · cases hb
      exact fun r hr => absurd hr List.not_mem_nil
    · rw [fullReset_link hb]
      exact fun q hq => absurd hq List.not_mem_nil
  · intro _ hload hb
    refine ⟨?_, fun l => ?_⟩
    · rw [PoolInRange, execImageLoad_records hload hb]
      exact hpool
    · obtain ⟨record, hlink⟩ := execImageLoad_link hload hb l
      rw [hlink]
      exact htransmit l
  · rintro n p m - - rfl
    exact frames_kept.of_endEvent n p trivial
  · exact fun _ _ _ _ _ _ _ => hs
  · exact fun l r _ _ ha => ⟨ha.1, withLink_forall (C := fun _ => TransmitFits) (ha.2 l) ha.2⟩
  · exact fun _ _ _ _ => id

/-! ## The management queue -/

theorem queueLive_kept : Kept .any QueueLive where
  proceeds := Proceeds.queueLive
  moving ha h := by
    obtain ⟨-, -, -, -, -, hlinks, hqueue⟩ := moving_eq h
    unfold QueueLive
    rwa [hlinks, hqueue]
  raise a e w ha := by
    unfold QueueLive
    rwa [State.raiseEvent_queue, State.raiseEvent_links]
  present _ _ _ _ ha := ha
  restart _ ha := ha

theorem queueLive_record {s : State} (l : LinkNo) (r : LinkRecord) (hs : QueueLive s) :
    QueueLive (s.withLink l { s.links[l] with record := r }) := by
  obtain ⟨hlength, hper, hlive⟩ := hs
  refine ⟨hlength, hper, fun x hx => ?_⟩
  by_cases hl : x.link = l
  · subst hl
    rw [State.withLink_self]
    exact hlive x hx
  · rw [State.withLink_ne _ _ hl]
    exact hlive x hx

theorem queueLive_requested {s : State} {l : LinkNo} (hup : s.isUp l = true) (hroom : s.admits l = true)
    (sequence operation : Byte) (operands : List Byte) (hs : QueueLive s) :
    QueueLive (requested s l sequence operation operands) := by
  obtain ⟨hlength, hper, hlive⟩ := hs
  obtain ⟨hroom8, hroom2⟩ : s.queue.length < 8 ∧ (s.queue.filter fun r => r.link == l).length < 2 :=
    (admits_iff s l).1 hroom
  refine ⟨?_, fun m => ?_, fun x hx => ?_⟩
  · simpa [requested] using hroom8
  · rw [requested, List.filter_append, List.length_append]
    by_cases hm : m = l
    · subst hm
      simpa using hroom2
    · simpa [Ne.symm hm] using hper m
  · rcases List.mem_append.1 hx with hx | hx
    · exact hlive x hx
    · rw [List.mem_singleton.1 hx]
      exact ⟨isUp_iff.1 hup, rfl⟩

/-- Requests are queued outside the image load alone. -/
theorem queueEmpty_kept : Kept .any fun s => s.queue = [] where
  proceeds h ha := List.sublist_nil.1 (ha ▸ h.queue_sublist)
  moving ha h := by
    obtain ⟨-, -, -, -, -, -, hqueue⟩ := moving_eq h
    exact hqueue.trans ha
  raise a e w ha := (State.raiseEvent_queue ..).trans ha
  present _ _ _ _ ha := ha
  restart _ ha := ha

theorem StillMoves.loading {s : State} {c : Instr} {x : Still} (h : StillMoves s c x) (hc : c ≠ .fullReset)
    (hx : x.loading = true) : s.loading = true := by
  cases h with
  | reset => exact absurd rfl hc
  | load => cases hx
  | copied | write =>
    unfold State.setBank at hx
    split at hx <;> exact hx
  | _ => exact hx

theorem execImageLoad_queue {s t : State} (hload : s.loading = true) (h : execImageLoad s = .next t) :
    t.queue = s.queue := by
  rcases execImageLoad_cases hload h with ⟨im, loaded, _, _, -, rfl⟩ | rfl
  · rfl
  · exact State.report_queue ..

/-- Settles O14: a link leaves its session only with its requests gone, and requests are admitted within the limits. -/
theorem queueStaysBounded : Obligations.QueueStaysBounded := by
  refine step_keeps (I := QueueSound) (fun _ _ => id) fun c s t hs h => ?_
  obtain ⟨hlength, hper, hempty, hlive⟩ := hs
  have heffect := exec_any h
  have hs : QueueLive s := ⟨hlength, hper, fun r hr => And.imp_left isUp_iff.1 (hlive r hr)⟩
  have hnone : ∀ b : State, b.queue = [] → QueueLive b := fun b hb => by simp [QueueLive, hb]
  have hloaded : s.loading = true → execImageLoad s = .next t → t.queue = [] :=
    fun hload hb => (execImageLoad_queue hload hb).trans (hempty hload)
  obtain ⟨hlength', hper', hlive'⟩ := queueLive_kept.of_effect heffect hs
    { reset := fun _ hb => hnone t (by cases hb; rfl)
      load := fun _ hload hb => hnone t (hloaded hload hb)
      event := fun n p m _ _ ht => ht ▸ queueLive_kept.of_endEvent n p trivial
      admitted := fun _ sequence operation operands hup _ hroom =>
        queueLive_requested hup hroom sequence operation operands hs
      record := fun l r _ _ => queueLive_record l r
      clear := fun _ _ _ _ => id }
  refine ⟨hlength', hper', fun hload => ?_, fun r hr => And.imp_left isUp_iff.2 (hlive' r hr)⟩
  by_cases hc : c = .fullReset
  · subst hc
    cases h
    rfl
  · have hloading := heffect.still.loading hc hload
    exact queueEmpty_kept.of_effect heffect (hempty hloading)
      { reset := fun _ hb => by cases hb; rfl
        load := fun _ => hloaded
        event := fun n p m _ _ ht => ht ▸ queueEmpty_kept.of_endEvent n p trivial
        admitted := fun _ _ _ _ _ hnot _ => absurd (hnot.symm.trans hloading) Bool.noConfusion
        record := fun _ _ _ _ => id
        clear := fun _ _ _ _ => id }

end Sys2Proof.Proofs
end

section
/-! Invariants of the part that stays still under moves: tables, long operations, the image store and the masks. -/

open Sys2Proof Sys2Proof.Machine

namespace Sys2Proof.Proofs

/-! ## Tables (R3, R4, R161) -/

theorem imageLegal_start : ImageLegal Image.start := by
  refine ⟨⟨fun i => ?_, fun n => ?_⟩, fun l => ?_, fun t => ?_⟩
  · simp only [Image.start, Bank.start, Fin.getElem_fin, Vector.getElem_replicate]
    decide
  · simp only [Image.start, Bank.start, Fin.getElem_fin, Vector.getElem_replicate]
    decide
  · simp only [Image.start, Fin.getElem_fin, Vector.getElem_ofFn]
    rfl
  · simp only [Image.start, Fin.getElem_fin, Vector.getElem_replicate]
    decide

theorem imageLegal_of_slot {x : Slot} {g : Word} {im : Image} (h : x.image = some (g, im)) : ImageLegal im := by
  unfold Slot.image at h
  split at h
  · split at h
    · obtain ⟨im', hread, heq⟩ := Option.map_eq_some_iff.1 h
      cases heq
      exact imageLegal_of_readImage hread
    · cases h
  · cases h

/-- The image that a load hands over is legal (R184, R187). -/
theorem imageLegal_of_load {s : State} {im : Image}
    (h : im = Image.start ∨ ∃ (k : ImageSlot) (g : Word), s.slots[k].image = some (g, im)) : ImageLegal im := by
  rcases h with rfl | ⟨k, g, h⟩
  · exact imageLegal_start
  · exact imageLegal_of_slot h

/-- Both banks and the timers of the target links are legal. -/
def StillTablesLegal (x : Still) : Prop :=
  BankLegal x.bankA ∧ BankLegal x.bankB ∧ ∀ t : TargetNo, x.timers[t].legal

theorem activeBank_legal {s : State} (h : StillTablesLegal s.still) : BankLegal s.activeBank := by
  obtain ⟨ha, hb, -⟩ := h
  unfold State.activeBank State.bank
  split
  · exact ha
  · exact hb

theorem stagingBank_legal {s : State} (h : StillTablesLegal s.still) : BankLegal s.stagingBank := by
  obtain ⟨ha, hb, -⟩ := h
  unfold State.stagingBank State.bank
  split
  · exact ha
  · exact hb

theorem setBank_legal {s : State} {b : Bank} (n : BankName) (hb : BankLegal b) (hs : StillTablesLegal s.still) :
    StillTablesLegal (s.setBank n b).still := by
  obtain ⟨ha', hb', ht⟩ := hs
  cases n with
  | a => exact ⟨hb, hb', ht⟩
  | b => exact ⟨ha', hb, ht⟩

theorem StillMoves.tablesLegal {s : State} {c : Instr} {x : Still} (h : StillMoves s c x)
    (hs : StillTablesLegal s.still) : StillTablesLegal x := by
  cases h with
  | load im loaded hload him =>
    obtain ⟨hbank, -, htimers⟩ := imageLegal_of_load him
    exact ⟨hbank, hbank, htimers⟩
  | copied hcopying => exact setBank_legal s.active.other (activeBank_legal hs) hs
  | write _ hc b draws _ _ hlegal => exact setBank_legal s.active.other (hlegal (stagingBank_legal hs)) hs
  | timers timers draws _ hlegal =>
    obtain ⟨ha, hb, ht⟩ := hs
    exact ⟨ha, hb, hlegal ht⟩
  | _ => exact hs

/-- Every link record of the router is legal (R161). -/
def RecordsLegal (s : State) : Prop :=
  ∀ l : LinkNo, s.links[l].record.legal

theorem recordsLegal_kept : Kept .any RecordsLegal where
  proceeds h ha l := by
    rw [h.link_record]
    exact ha l
  moving ha h := by
    obtain ⟨-, -, -, -, -, hlinks, -⟩ := moving_eq h
    unfold RecordsLegal
    rwa [hlinks]
  raise a e w ha := by
    unfold RecordsLegal
    rwa [State.raiseEvent_links]
  present _ _ _ _ ha := ha
  restart _ ha := ha

theorem recordsLegal_effect {s t : State} {c : Instr} (h : Effect .any s c t) (hs : RecordsLegal s) :
    RecordsLegal t := by
  refine recordsLegal_kept.of_effect h hs
    { reset := ?_, load := ?_, event := ?_, admitted := ?_, record := ?_, clear := ?_ }
  · intro _ hb l
    rw [fullReset_link hb]
    exact hs l
  · intro _ hload hb l
    rcases execImageLoad_cases hload hb with ⟨im, loaded, k, g, himage, rfl⟩ | rfl
    · rw [imageLoaded_link]
      exact (imageLegal_of_slot himage).2.1 l
    · rw [State.report_links, imageLoaded_link]
      exact imageLegal_start.2.1 l
  · rintro n p m - - rfl
    exact recordsLegal_kept.of_endEvent n p trivial
  · exact fun _ _ _ _ _ _ _ => hs
  · exact fun l r _ hlegal ha => withLink_forall (C := fun _ k => k.record.legal) hlegal ha
  · exact fun _ _ _ _ => id

/-- Settles O12: entries, windows and link records enter the tables through their codes, or with a legal image. -/
theorem tablesStayLegal : Obligations.TablesStayLegal := by
  refine step_keeps (I := TablesSound) (fun _ _ => id) fun c s t hs h => ?_
  obtain ⟨ha, hb, hrecords, htimers⟩ := hs
  have heffect := exec_any h
  obtain ⟨ha', hb', htimers'⟩ := heffect.still.tablesLegal ⟨ha, hb, htimers⟩
  exact ⟨ha', hb', recordsLegal_effect heffect hrecords, htimers'⟩

/-! ## Long operations (R17, R166, R181, R193) -/

theorem setBank_still (s : State) (n : BankName) (b : Bank) : ∃ bankA bankB,
    (s.setBank n b).still = { s.still with bankA := bankA, bankB := bankB } := by
  cases n with
  | a => exact ⟨_, s.bankB, rfl⟩
  | b => exact ⟨s.bankA, _, rfl⟩

/-- `LongOperationsSound`, of the still part. -/
def StillLongSound (x : Still) : Prop :=
  (x.frozen = true → x.copyState = .idle ∧ x.saving = none) ∧ (x.copyState = .copying → x.saving = none) ∧
    (x.saveRecord.isSome ↔ x.saving.isSome)

theorem copyState_idle {x : CopyState} (h : x ≠ .copying) : x = .idle := by
  cases x with
  | idle => rfl
  | copying => exact absurd rfl h

theorem StillMoves.longSound {s : State} {c : Instr} {x : Still} (h : StillMoves s c x)
    (hs : StillLongSound s.still) : StillLongSound x := by
  obtain ⟨hfrozen, hcopying, hrecord⟩ := hs
  cases h with
  | reset => exact ⟨fun h => absurd h Bool.noConfusion, fun _ => rfl, Iff.rfl⟩
  | copied hcopying' =>
    obtain ⟨bankA, bankB, hbank⟩ := setBank_still s s.active.other s.activeBank
    rw [hbank]
    exact ⟨fun h => ⟨rfl, (hfrozen h).2⟩, CopyState.noConfusion, hrecord⟩
  | freeze draws hcopy hsaving => exact ⟨fun _ => ⟨copyState_idle hcopy, hsaving⟩, hcopying, hrecord⟩
  | write _ hc b draws hnot hcopy hlegal =>
    obtain ⟨bankA, bankB, hbank⟩ := setBank_still s s.active.other b
    rw [hbank]
    exact ⟨hfrozen, hcopying, hrecord⟩
  | commit copyState draws hnot hcopy hsaving =>
    exact ⟨fun h => absurd (hnot.symm.trans h) Bool.noConfusion, fun _ => hsaving, hrecord⟩
  | startSave r hnot hcopy hsaving hspent =>
    exact ⟨fun h => absurd (hnot.symm.trans h) Bool.noConfusion, fun h => absurd h hcopy, iff_of_true rfl rfl⟩
  | saveEnd contents check run hrun slot summary hsummary =>
    exact ⟨fun h => ⟨(hfrozen h).1, rfl⟩, fun _ => rfl, Iff.rfl⟩
  | _ => exact ⟨hfrozen, hcopying, hrecord⟩

/-- Settles O21: FREEZE, COMMIT and SAVE each test what the others have started. -/
theorem longOperationsStayApart : Obligations.LongOperationsStayApart :=
  step_keeps (I := LongOperationsSound) (fun _ _ => id) fun _ _ _ hs h =>
    (exec_any h).still.longSound hs

/-! ## What the freeze flag keeps (R17, R181) -/

/-- The link records stand as in `s`. -/
def SameRecords (s b : State) : Prop :=
  ∀ l : LinkNo, b.links[l].record = s.links[l].record

theorem sameRecords_kept (s : State) : Kept .any (SameRecords s) where
  proceeds h ha l := (h.link_record l).trans (ha l)
  moving ha h := by
    obtain ⟨-, -, -, -, -, hlinks, -⟩ := moving_eq h
    unfold SameRecords
    rwa [hlinks]
  raise a e w ha := by
    unfold SameRecords
    rwa [State.raiseEvent_links]
  present _ _ _ _ ha := ha
  restart _ ha := ha

theorem sameRecords_effect {s t : State} {c : Instr} (h : Effect .any s c t) (hfrozen : s.frozen = true)
    (hload : s.loading = false) : SameRecords s t := by
  refine (sameRecords_kept s).of_effect h (fun _ => rfl)
    { reset := ?_, load := ?_, event := ?_, admitted := ?_, record := ?_, clear := ?_ }
  · exact fun _ hb l => by rw [fullReset_link hb]; rfl
  · exact fun _ hloading => absurd (hload.symm.trans hloading) Bool.noConfusion
  · rintro n p m - - rfl
    exact (sameRecords_kept s).of_endEvent n p trivial
  · exact fun _ _ _ _ _ _ _ _ => rfl
  · exact fun _ _ hnot => absurd (hnot.symm.trans hfrozen) Bool.noConfusion
  · exact fun _ _ _ _ => id

/-- The freeze flag is set, and the tables, their roles and the timers of the link records stand as in `s`. -/
def FrozenAs (s : State) (x : Still) : Prop :=
  x.frozen = true ∧ x.bankA = s.bankA ∧ x.bankB = s.bankB ∧ x.active = s.active ∧ x.copyState = .idle ∧
    x.timers = s.timers

theorem StillMoves.frozenAs {s : State} {c : Instr} {x : Still} (h : StillMoves s c x) (hfrozen : s.frozen = true)
    (hidle : s.copyState = .idle) (hload : s.loading = false) (hc : c ≠ .fullReset) : FrozenAs s x := by
  cases h with
  | reset => exact absurd rfl hc
  | load im loaded hloading => exact absurd (hload.symm.trans hloading) Bool.noConfusion
  | copied hcopying => exact absurd (hidle.symm.trans hcopying) CopyState.noConfusion
  | timers timers draws hnot => exact absurd (hnot.symm.trans hfrozen) Bool.noConfusion
  | write _ hc b draws hnot => exact absurd (hnot.symm.trans hfrozen) Bool.noConfusion
  | commit copyState draws hnot => exact absurd (hnot.symm.trans hfrozen) Bool.noConfusion
  | startSave r hnot => exact absurd (hnot.symm.trans hfrozen) Bool.noConfusion
  | freeze draws => exact ⟨rfl, rfl, rfl, rfl, hidle, rfl⟩
  | _ => exact ⟨hfrozen, rfl, rfl, rfl, hidle, rfl⟩

/-- Settles O23: while the freeze flag is set, every request that writes tables or link records is turned away, and no
copy phase runs. -/
theorem frozenTablesStay : Obligations.FrozenTablesStay := by
  intro c s t hfrozen hlong hload hc h
  obtain ⟨hidle, -⟩ := hlong.1 hfrozen
  have heffect := exec_any h
  obtain ⟨hflag, hbankA, hbankB, hactive, hcopy, htimers⟩ := heffect.still.frozenAs hfrozen hidle hload hc
  exact ⟨hflag, hbankA, hbankB, hactive, hcopy, sameRecords_effect heffect hfrozen hload, htimers⟩

/-! ## The image store (R183 to R193) -/

/-- `ImageStoreSound`, of the still part. -/
def StillStoreSound (x : Still) : Prop :=
  (∀ k : ImageSlot, x.summary[k] = x.slots[k].image.map Prod.fst) ∧
    ∀ run ∈ x.saving, x.slots[run.slot].check = none ∧ x.summary[run.slot] = none ∧ ImageLegal run.snapshot

theorem vector_set_get {α : Type} {n : Nat} (v : Vector α n) (i k : Fin n) (x : α) :
    (v.set i x)[k] = if k = i then x else v[k] := by
  rw [Fin.getElem_fin, Vector.getElem_set]
  by_cases h : k = i
  · subst h
    rw [if_pos rfl, if_pos rfl]
  · rw [if_neg (fun hv => h (Fin.ext hv.symm)), if_neg h]
    rfl

/-- A slot and its summary, set together, agree, and the others do as before. -/
theorem summary_set {slots : Vector Slot 2} {summary : Vector (Option Word) 2}
    (htrue : ∀ k : ImageSlot, summary[k] = slots[k].image.map Prod.fst) (i : ImageSlot) {slot : Slot}
    {value : Option Word} (hvalue : value = slot.image.map Prod.fst) (k : ImageSlot) :
    (summary.set i value)[k] = (slots.set i slot)[k].image.map Prod.fst := by
  rw [vector_set_get, vector_set_get]
  split
  · exact hvalue
  · exact htrue k

theorem snapshot_legal {s : State} (h : TablesSound s) : ImageLegal s.snapshot := by
  obtain ⟨ha, hb, hrecords, htimers⟩ := h
  refine ⟨activeBank_legal ⟨ha, hb, htimers⟩, fun l => ?_, htimers⟩
  simp only [State.snapshot, Fin.getElem_fin, Vector.getElem_map]
  exact hrecords l

theorem slotsAfterReset_get (s : State) (k : ImageSlot) :
    s.slotsAfterReset[k] = if ∃ run ∈ s.saving, run.slot = k then Slot.erased else s.slots[k] := by
  unfold State.slotsAfterReset
  split
  · next run hrun =>
    rw [vector_set_get, hrun]
    simp [eq_comm]
  · next hnone => simp [hnone]

theorem startSave_still (s : State) (r : Request) :
    (s.startSave r).still =
      { s.still with
        saving := some
          { snapshot := s.snapshot, slot := (chooseSave s.summary).2, generation := (chooseSave s.summary).1 }
        summary := s.summary.set (chooseSave s.summary).2 none
        slots := s.slots.set (chooseSave s.summary).2 Slot.erased
        saveRecord := some { link := r.link, session := r.session, sequence := r.sequence } } := rfl

theorem StillMoves.storeSound {s : State} {c : Instr} {x : Still} (h : StillMoves s c x) (htables : TablesSound s)
    (hs : StillStoreSound s.still) : StillStoreSound x := by
  obtain ⟨htrue, hsaving⟩ := hs
  cases h with
  | reset =>
    refine ⟨fun k => ?_, fun run hrun => by cases hrun⟩
    dsimp only
    rw [slotsAfterReset_get]
    split
    · next h =>
      obtain ⟨run, hrun, rfl⟩ := h
      exact (hsaving run hrun).2.1
    · exact htrue k
  | load im loaded hload him =>
    refine ⟨slotTests_get s, fun run hrun => ?_⟩
    obtain ⟨hcheck, -, hlegal⟩ := hsaving run hrun
    exact ⟨hcheck, (slotTests_get s run.slot).trans (congrArg (Option.map Prod.fst) (image_of_check_none hcheck)), hlegal⟩
  | copied hcopying =>
    obtain ⟨bankA, bankB, hbank⟩ := setBank_still s s.active.other s.activeBank
    rw [hbank]
    exact ⟨htrue, hsaving⟩
  | write _ hc b draws hnot hcopy hlegal =>
    obtain ⟨bankA, bankB, hbank⟩ := setBank_still s s.active.other b
    rw [hbank]
    exact ⟨htrue, hsaving⟩
  | startSave r hnot hcopy hnone hspent =>
    rw [startSave_still]
    refine ⟨summary_set htrue _ rfl, fun run hrun => ?_⟩
    cases hrun
    dsimp only
    rw [vector_set_get, vector_set_get, if_pos rfl, if_pos rfl]
    exact ⟨rfl, rfl, snapshot_legal htables⟩
  | saveEnd contents check run hrun slot summary hsummary =>
    exact ⟨summary_set htrue _ (hsummary (hsaving run hrun).2.2), fun run hrun => by cases hrun⟩
  | _ => exact ⟨htrue, hsaving⟩

/-- Settles O22: the slot of a running SAVE is marked not valid, and each write of a slot comes with its summary. -/
theorem imageStoreStaysSound : Obligations.ImageStoreStaysSound := by
  intro s t htables hstore
  refine step_of_exec (J := fun s => TablesSound s ∧ ImageStoreSound s) (I := ImageStoreSound) (fun _ _ => id)
    (fun _ => And.right) (fun c s t hs h => ?_) ⟨htables, hstore⟩
  obtain ⟨htables, hstore⟩ := hs
  exact (exec_any h).still.storeSound htables hstore

/-! ## The newest image (R189) -/

theorem newestSlot_summary {s : State} {k : ImageSlot} (h : s.newestSlot = some k) : s.summary[k] ≠ none := by
  unfold State.newestSlot at h
  split at h
  · next g0 g1 h0 h1 =>
    split at h <;> cases h
    · exact fun hnone => Option.some_ne_none _ (h1.symm.trans hnone)
    · exact fun hnone => Option.some_ne_none _ (h0.symm.trans hnone)
  · next g0 h0 _ =>
    cases h
    exact fun hnone => Option.some_ne_none _ (h0.symm.trans hnone)
  · next g1 _ h1 =>
    cases h
    exact fun hnone => Option.some_ne_none _ (h1.symm.trans hnone)
  · cases h

/-- What a SAVE chooses by the slot of the newest image (R189). -/
theorem chooseSave_newest (s : State) :
    s.newestSlot.elim (chooseSave s.summary = (1, 0)) fun k =>
      ∃ g, s.summary[k] = some g ∧ chooseSave s.summary = (g + 1, if k = 0 then 1 else 0) := by
  unfold State.newestSlot chooseSave
  cases h0 : s.summary[0] with
  | none =>
    cases h1 : s.summary[1] with
    | none => rfl
    | some g1 => exact ⟨g1, h1, rfl⟩
  | some g0 =>
    cases h1 : s.summary[1] with
    | none => exact ⟨g0, h0, rfl⟩
    | some g1 =>
      by_cases hlt : g0 < g1
      · simp only [if_pos hlt]
        exact ⟨g1, h1, rfl⟩
      · simp only [if_neg hlt]
        exact ⟨g0, h0, rfl⟩

theorem chooseSave_of_newest {s : State} {k : ImageSlot} (h : s.newestSlot = some k) :
    ∃ g, s.summary[k] = some g ∧ chooseSave s.summary = (g + 1, if k = 0 then 1 else 0) := by
  have hnewest := chooseSave_newest s
  rw [h] at hnewest
  exact hnewest

/-- A SAVE takes the slot that does not hold the newest image (R189). -/
theorem chooseSave_ne_newest {s : State} {k : ImageSlot} (h : s.newestSlot = some k) :
    (chooseSave s.summary).2 ≠ k := by
  obtain ⟨g, -, hchoice⟩ := chooseSave_of_newest h
  rw [hchoice]
  exact (by decide : ∀ k : ImageSlot, (if k = 0 then 1 else 0) ≠ k) k

theorem StillMoves.newest_slot {s : State} {c : Instr} {x : Still} {k : ImageSlot} (h : StillMoves s c x)
    (hs : StillStoreSound s.still) (hk : s.newestSlot = some k) : x.slots[k] = s.slots[k] := by
  obtain ⟨-, hsaving⟩ := hs
  have hrunning : ∀ run ∈ s.saving, run.slot ≠ k := by
    rintro run hrun rfl
    exact newestSlot_summary hk (hsaving run hrun).2.1
  cases h with
  | reset => exact (slotsAfterReset_get s k).trans (if_neg fun ⟨run, hrun, heq⟩ => hrunning run hrun heq)
  | copied hcopying =>
    obtain ⟨bankA, bankB, hbank⟩ := setBank_still s s.active.other s.activeBank
    rw [hbank]
    rfl
  | write _ hc b draws hnot hcopy hlegal =>
    obtain ⟨bankA, bankB, hbank⟩ := setBank_still s s.active.other b
    rw [hbank]
    rfl
  | startSave r hnot hcopy hnone hspent =>
    rw [startSave_still]
    exact (vector_set_get ..).trans (if_neg (chooseSave_ne_newest hk).symm)
  | saveEnd contents check run hrun slot summary hsummary =>
    exact (vector_set_get ..).trans (if_neg (hrunning run hrun).symm)
  | _ => rfl

/-- Settles O24: slots are written for a SAVE alone, which took the other slot. -/
theorem newestImageNeverWritten : Obligations.NewestImageNeverWritten := by
  intro c s t k hstore hk h
  exact (exec_any h).still.newest_slot hstore hk

end Sys2Proof.Proofs
end

section
/-! The masks, the latches and the current request: only arrivals, the mask requests, RESTART, FULL_RESET and the image
load touch them, and each keeps latches at masked indexes (R65, R66, R70). -/

open Sys2Proof Sys2Proof.Machine

namespace Sys2Proof.Proofs

/-! ## What touches the masks -/

/-- The image load, masks, latches, rotation pointers and current request stand as in `s`. -/
structure SameMasks (s b : State) : Prop where
  loading : b.loading = s.loading
  maskMap : b.maskMap = s.maskMap
  latches : b.latches = s.latches
  current : b.current = s.current
  pointers : b.pointers = s.pointers

theorem SameMasks.trans {a b c : State} (hab : SameMasks a b) (hbc : SameMasks b c) : SameMasks a c where
  loading := hbc.loading.trans hab.loading
  maskMap := hbc.maskMap.trans hab.maskMap
  latches := hbc.latches.trans hab.latches
  current := hbc.current.trans hab.current
  pointers := hbc.pointers.trans hab.pointers

theorem Proceeds.sameMasks {P : Leave} {s b : State} (h : Proceeds P s b) : SameMasks s b where
  loading := congrArg Still.loading h.still
  maskMap := congrArg Still.maskMap h.still
  latches := h.latches_pointers.1
  current := congrArg Still.current h.still
  pointers := h.latches_pointers.2

theorem Delivers.sameMasks {P : Leave} {s b : State} (h : Delivers P s b) : SameMasks s b :=
  (Proceeds.delivers h).sameMasks

theorem dequeued_sameMasks (s : State) : SameMasks s (dequeued s) :=
  ⟨rfl, rfl, rfl, rfl, rfl⟩

theorem setBank_sameMasks (s : State) (n : BankName) (b : Bank) : SameMasks s (s.setBank n b) := by
  cases n <;> exact ⟨rfl, rfl, rfl, rfl, rfl⟩

theorem WritesBank.sameMasks {s b : State} (h : WritesBank s b) : SameMasks s b := by
  rcases h with rfl | ⟨-, -, bank, rfl, -⟩
  · exact ⟨rfl, rfl, rfl, rfl, rfl⟩
  · exact setBank_sameMasks ..

theorem writeLink_sameMasks (s : State) (l : LinkNo) (record : LinkRecord) (timer : Option TimerRecord) :
    SameMasks s (s.writeLink l record timer) := by
  unfold State.writeLink
  dsimp only
  split <;> exact ⟨rfl, rfl, rfl, rfl, rfl⟩

theorem raiseEvent_sameMasks (s : State) (e : RouterEvent) (w : Word) : SameMasks s (s.raiseEvent e w) where
  loading := congrArg Still.loading (State.raiseEvent_still ..)
  maskMap := congrArg Still.maskMap (State.raiseEvent_still ..)
  latches := congrArg (·.2.1) (State.raiseEvent_apart ..)
  current := congrArg Still.current (State.raiseEvent_still ..)
  pointers := congrArg (·.2.2) (State.raiseEvent_apart ..)

/-- `MaskEffect s c t`: what the command `c` may do to masks, latches, pointers and the current request. -/
inductive MaskEffect (s : State) : Instr → State → Prop where
  | same (c : Instr) {t : State} (h : SameMasks s t) : MaskEffect s c t
  | reset {t : State} (h : execFullReset s = .next t) : MaskEffect s .fullReset t
  | load {t : State} (hload : s.loading = true) (hloaded : t.loading = false) (hlatches : t.latches = s.latches)
      (hcurrent : t.current = s.current) (hpointers : t.pointers = s.pointers) : MaskEffect s .imageLoad t
  | arrived {c : Instr} {a b t : State}
      (hc : (∃ n order, c = .externalArrival n order) ∨ ∃ order, c = .internalArrival order)
      (hload : s.loading = false) (ha : SameMasks s a) (harrived : Arrived .any a b) (ht : SameMasks b t) :
      MaskEffect s c t
  | release {order : List TargetNo} {pace : Nat} {u : UnmaskRun} {latch : Latch} {a : State} {outcome : ArrivalOutcome}
      (hu : s.current = some (.unmask u)) (hlatch : u.presented = some latch) (hload : s.loading = false)
      (ha : Arrived .any s a) : MaskEffect s (.release order pace) (a.unmaskOn (u.count outcome) pace)
  | maskNext {m : MaskRun} (hm : s.current = some (.mask m)) (hload : s.loading = false) :
      MaskEffect s .maskRange (s.maskNext m)
  | startMask {r : Request} (hr : s.nextRequest = some r) : MaskEffect s .maskRange (State.startMask r (dequeued s))
  | unmaskOn {u : UnmaskRun} {pace : Nat} (hu : s.current = some (.unmask u)) (hload : s.loading = false) :
      MaskEffect s (.unmaskRange pace) (s.unmaskOn u pace)
  | startUnmask {r : Request} {pace : Nat} (hr : s.nextRequest = some r) :
      MaskEffect s (.unmaskRange pace) (State.startUnmask pace r (dequeued s))
  | restartNext {run : RestartRun} (hrun : s.current = some (.restart run)) (hload : s.loading = false) :
      MaskEffect s .restart (s.restartNext run)
  | startRestart {r : Request} (hr : s.nextRequest = some r) :
      MaskEffect s .restart (State.startRestart r (dequeued s))

theorem MaskEffect.of_moves {s b t : State} {c : Instr} (hb : SameMasks (dequeued s) b) (h : Proceeds .any b t) :
    MaskEffect s c t :=
  .same c (((dequeued_sameMasks s).trans hb).trans h.sameMasks)

theorem execImageLoad_masks {s t : State} (hload : s.loading = true) (h : execImageLoad s = .next t) :
    MaskEffect s .imageLoad t := by
  rcases execImageLoad_cases hload h with ⟨im, loaded, _, _, -, rfl⟩ | rfl
  · exact .load hload rfl rfl rfl rfl
  · obtain ⟨hloading, -, hlatches, hcurrent, hpointers⟩ :=
      (Delivers.report (P := .any) (imageLoaded s Image.start none) noImageFault false).sameMasks
    exact .load hload hloading hlatches hcurrent hpointers

theorem copyPhaseEnd_sameMasks {s t : State} (hcopying : s.copyState = .copying) (h : execCopyPhaseEnd s = .next t) :
    SameMasks s t := by
  unfold execCopyPhaseEnd at h
  rw [if_pos hcopying] at h
  cases h
  refine SameMasks.trans (b := { s.setBank s.active.other s.activeBank with copyState := .idle }) ?_
    (raiseEvent_sameMasks ..)
  obtain ⟨hloading, hmask, hlatches, hcurrent, hpointers⟩ := setBank_sameMasks s s.active.other s.activeBank
  exact ⟨hloading, hmask, hlatches, hcurrent, hpointers⟩

theorem answerSave_sameMasks (s : State) {status : Status} {results : List Byte} (h : results.length ≤ 46) :
    SameMasks s (s.answerSave status results) := by
  obtain ⟨hloading, hmask, hlatches, hcurrent, hpointers⟩ :=
    (answerSave_delivers (P := .any) s (status := status) h).sameMasks
  exact ⟨hloading, hmask, hlatches, hcurrent, hpointers⟩

theorem saveDone_sameMasks (s : State) (run : SaveRun) (contents : SlotContents) (check : Word) :
    SameMasks s (s.saveDone run contents check) := by
  refine SameMasks.trans ?_ (raiseEvent_sameMasks ..)
  refine SameMasks.trans ?_ (answerSave_sameMasks _ ?_)
  · exact ⟨rfl, rfl, rfl, rfl, rfl⟩
  · simp

theorem saveFailed_sameMasks (s : State) (run : SaveRun) (contents : SlotContents) :
    SameMasks s (s.saveFailed run contents) := by
  refine SameMasks.trans ?_ (Delivers.report (P := .any) ..).sameMasks
  refine SameMasks.trans ?_ (answerSave_sameMasks _ (Nat.zero_le 46))
  exact ⟨rfl, rfl, rfl, rfl, rfl⟩

theorem Effect.masks {s t : State} {c : Instr} (h : Effect .any s c t) : MaskEffect s c t := by
  cases h with
  | proceeds h => exact .same c h.sameMasks
  | fullReset h => exact .reset h
  | imageLoad hload h => exact execImageLoad_masks hload h
  | pass hfree hup hload hfind => exact .same _ ⟨rfl, rfl, rfl, rfl, rfl⟩
  | @takeEvent n order p a m hp hload ha hm =>
    refine .arrived (.inl ⟨_, _, rfl⟩) hload ⟨rfl, rfl, rfl, rfl, rfl⟩ ha (hm.sameMasks.trans ?_)
    obtain ⟨hloading, hmask, hlatches, hcurrent, hpointers⟩ := (endEvent_proceeds (P := .any) m n p trivial).sameMasks
    exact ⟨hloading, hmask, hlatches, hcurrent, hpointers⟩
  | present _ _ _ => exact .same _ ⟨rfl, rfl, rfl, rfl, rfl⟩
  | takeRaised _ hload h =>
    exact .arrived (.inr ⟨_, rfl⟩) hload (a := { s with presented := none }) ⟨rfl, rfl, rfl, rfl, rfl⟩ h
      ⟨rfl, rfl, rfl, rfl, rfl⟩
  | release hu hlatch hload a outcome ha _ => exact .release hu hlatch hload ha
  | maskNext hm hload => exact .maskNext hm hload
  | startMask hr => exact .startMask hr
  | unmaskOn hu _ hload => exact .unmaskOn hu hload
  | startUnmask hr => exact .startUnmask hr
  | restartNext hrun hload => exact .restartNext hrun hload
  | startRestart hr => exact .startRestart hr
  | copyPhaseEnd hcopying h => exact .same _ (copyPhaseEnd_sameMasks hcopying h)
  | setLink h =>
    refine .of_moves ?_ h
    rcases setLink_cases _ (dequeued s) with heq | ⟨l, record, timer, -, -, -, heq⟩ <;> rw [heq]
    · exact ⟨rfl, rfl, rfl, rfl, rfl⟩
    · exact writeLink_sameMasks ..
  | freeze h =>
    refine .of_moves ?_ h
    rcases freeze_cases _ (dequeued s) with heq | ⟨-, -, heq⟩ <;> rw [heq] <;> exact ⟨rfl, rfl, rfl, rfl, rfl⟩
  | writeEntry h => exact .of_moves (writeEntry_writesBank ..).sameMasks h
  | writeWindow h => exact .of_moves (writeWindow_writesBank ..).sameMasks h
  | commit h =>
    refine .of_moves ?_ h
    rcases commit_cases _ (dequeued s) with heq | ⟨-, -, -, _, heq⟩ <;> rw [heq] <;> exact ⟨rfl, rfl, rfl, rfl, rfl⟩
  | clearFaults h =>
    refine .of_moves ?_ h
    rcases clearFaults_cases _ (dequeued s) with heq | ⟨n, lost, -, heq⟩ <;> rw [heq] <;>
      exact ⟨rfl, rfl, rfl, rfl, rfl⟩
  | startSave _ _ _ _ => exact .same _ ⟨rfl, rfl, rfl, rfl, rfl⟩
  | saveDone hrun => exact .same _ (saveDone_sameMasks ..)
  | saveFailed hrun readBack => exact .same _ (saveFailed_sameMasks ..)
  | admitted _ _ _ h =>
    obtain ⟨hloading, hmask, hlatches, hcurrent, hpointers⟩ := h.sameMasks
    exact .same _ ⟨hloading, hmask, hlatches, hcurrent, hpointers⟩

end Sys2Proof.Proofs
end

section
/-! The invariant of masks, latches and the current request (O13), and what only a few commands change (O26). -/

open Sys2Proof Sys2Proof.Machine

namespace Sys2Proof.Proofs

/-! ## Latches at masked indexes, and sound current requests (R65, R66, R68 to R70, R178) -/

/-- A latch is held only for an index whose mask flag is set. -/
def LatchesMasked (s : State) : Prop :=
  ∀ i : Index, s.latches[i].isSome → s.maskMap[i]

/-- The counts of the UNMASK are those of the indexes taken, and the flag of a release it presents is clear. -/
def UnmaskFits (s : State) (u : UnmaskRun) : Prop :=
  RunSound (.unmask u) ∧ ∀ p ∈ u.presented, s.maskMap[p.index] = false

theorem maskSound_same {s b : State} (h : SameMasks s b) (hs : MaskSound s) : MaskSound b := by
  obtain ⟨hloading, hmask, hlatches, hcurrent, -⟩ := h
  unfold MaskSound State.unmasking
  rw [hloading, hmask, hlatches, hcurrent]
  exact hs

/-- Outside the image load, with no release presented by the current request. -/
theorem maskSound_of_current {s : State} (hload : s.loading = false) (hmasked : LatchesMasked s)
    (hcurrent : ∀ c ∈ s.current, RunSound c ∧ ∀ u, c ≠ .unmask u) : MaskSound s := by
  refine ⟨hmasked, fun h => absurd (hload.symm.trans h) Bool.noConfusion, fun u hu => ?_, fun c hc => (hcurrent c hc).1⟩
  unfold State.unmasking at hu
  split at hu
  · next x hx => exact absurd rfl ((hcurrent _ hx).2 x)
  · cases hu

theorem maskSound_of_unmask {s : State} {u : UnmaskRun} (hload : s.loading = false) (hmasked : LatchesMasked s)
    (hu : UnmaskFits s u) : MaskSound { s with current := some (.unmask u) } := by
  obtain ⟨hsound, hclear⟩ := hu
  refine ⟨hmasked, fun h => absurd (hload.symm.trans h) Bool.noConfusion, fun x hx => ?_, fun c hc => ?_⟩
  · cases hx
    exact hclear
  · cases hc
    exact hsound

theorem inRange_some {n k : Nat} {i : Fin n} (h : inRange n k = some i) : i.val = k := by
  unfold inRange at h
  split at h
  · cases h
    rfl
  · cases h

/-- The Mask Unit clears the flag of an index together with its latch (R70). -/
theorem takeIndex_masked {s : State} (u : UnmaskRun) (i : Index) (hs : LatchesMasked s) :
    LatchesMasked (s.takeIndex u i).1 := by
  intro j hj
  simp only [State.takeIndex, vector_set_get] at hj ⊢
  by_cases hij : j = i
  · rw [if_pos hij] at hj
    cases hj
  · rw [if_neg hij] at hj ⊢
    exact hs j hj

theorem takeIndex_fits {s : State} {u : UnmaskRun} {i : Index} (hmasked : LatchesMasked s) (hu : UnmaskFits s u)
    (hnone : u.presented = none) (hdone : ¬ u.done = true) (hi : i.val = u.next) :
    UnmaskFits (s.takeIndex u i).1 (s.takeIndex u i).2 := by
  obtain ⟨⟨hnext, hcleared, hcounted⟩, -⟩ := hu
  have hleft : u.next ≤ u.last.val := by simpa [UnmaskRun.done, hnone] using hdone
  have hcounted : u.placed + u.refused ≤ u.cleared := by simpa [hnone] using hcounted
  refine ⟨⟨?_, ?_, ?_⟩, fun p hp => ?_⟩
  · simp only [State.takeIndex, hi]
    omega
  · simp only [State.takeIndex, hi]
    split <;> omega
  · simp only [State.takeIndex]
    cases hlatch : s.latches[i] with
    | none =>
      simp only [Option.map_none, Option.toList_none, List.length_nil]
      omega
    | some o =>
      rw [if_pos (hmasked i (by rw [hlatch]; rfl))]
      exact Nat.add_le_add_right hcounted 1
  · obtain ⟨o, -, rfl⟩ := Option.map_eq_some_iff.1 hp
    simp only [State.takeIndex, vector_set_get, if_pos]

theorem answer_maskSound {s : State} (r : Request) (reply : Reply) (hlength : reply.results.length ≤ 46)
    (hs : MaskSound s) : MaskSound (s.answer r reply false) :=
  maskSound_same (Proceeds.answer (P := .any) s r hlength false).sameMasks hs

theorem maskSound_idle {s : State} (hload : s.loading = false) (hmasked : LatchesMasked s) :
    MaskSound { s with current := none } :=
  maskSound_of_current hload hmasked (fun c hc => by cases hc)

/-- However far an UNMASK goes on, it stays sound (R70). -/
theorem unmaskOn_maskSound {s : State} {u : UnmaskRun} (hload : s.loading = false) (hmasked : LatchesMasked s)
    (hu : UnmaskFits s u) (pace : Nat) : MaskSound (s.unmaskOn u pace) := by
  induction pace generalizing s u with
  | zero => exact maskSound_of_unmask hload hmasked hu
  | succ pace ih =>
    unfold State.unmaskOn
    split
    · exact answer_maskSound _ _ (by simp [Reply.ok, UnmaskRun.result]) (maskSound_idle hload hmasked)
    · next hdone =>
      split
      · next i hnone hi =>
        exact ih hload (takeIndex_masked u i hmasked) (takeIndex_fits hmasked hu hnone hdone (inRange_some hi))
      · exact maskSound_of_unmask hload hmasked hu

/-- A MASK sets the flag of one index (R68). -/
theorem maskNext_maskSound {s : State} {m : MaskRun} (hload : s.loading = false) (hmasked : LatchesMasked s)
    (hm : RunSound (.mask m)) : MaskSound (s.maskNext m) := by
  obtain ⟨hrange, hnewly⟩ := hm
  have hflagged : LatchesMasked { s with maskMap := s.maskMap.set m.next true } := by
    intro i hi
    rw [vector_set_get]
    split
    · rfl
    · exact hmasked i hi
  unfold State.maskNext
  dsimp only
  split
  · next hlt =>
    refine maskSound_of_current hload hflagged fun c hc => ?_
    cases hc
    refine ⟨⟨hlt, ?_⟩, fun _ => CurrentRequest.noConfusion⟩
    dsimp only
    split <;> omega
  · exact answer_maskSound _ _ (by simp [Reply.ok])
      (maskSound_idle (s := { s with maskMap := s.maskMap.set m.next true }) hload hflagged)

theorem restartPart_masked {s : State} (p : RestartPart) (hs : LatchesMasked s) : LatchesMasked (s.restartPart p) := by
  cases p with
  | delivery =>
    obtain ⟨-, hmask, hlatches, -, -⟩ := (voidOffers_delivers (P := .any) (List.finRange 4) s).sameMasks
    intro i
    simp only [State.restartPart, hmask, hlatches]
    exact hs i
  | latches =>
    intro i hi
    simp [State.restartPart] at hi
  | pointers => exact hs

theorem restartPart_loading (s : State) (p : RestartPart) : (s.restartPart p).loading = s.loading :=
  congrArg Still.loading (restartPart_still s p)

/-- A RESTART does one of its handlings, and is answered with the last (R178). -/
theorem restartNext_maskSound {s : State} {run : RestartRun} (hload : s.loading = false) (hs : MaskSound s)
    (hrun : RunSound (.restart run)) : MaskSound (s.restartNext run) := by
  have hmasked : LatchesMasked s := hs.1
  unfold State.restartNext
  split
  · next p _ =>
    have hhandled := restartPart_masked p hmasked
    have hloading := (restartPart_loading s p).trans hload
    dsimp only
    split
    · exact answer_maskSound _ _ (Nat.zero_le _) (maskSound_idle (s := { s.restartPart p with draws := s.draws + 1 })
        hloading hhandled)
    · next hleft =>
      refine maskSound_of_current hloading hhandled fun c hc => ?_
      cases hc
      exact ⟨⟨hleft, hrun.2.erase p⟩, fun _ => CurrentRequest.noConfusion⟩
  · exact hs

theorem nextRequest_idle {s : State} {r : Request} (h : s.nextRequest = some r) :
    s.loading = false ∧ s.current = none := by
  unfold State.nextRequest at h
  split at h
  · cases h
  · next hidle => simpa using hidle

theorem readRange_le {a b : Half} {first last : Index} (h : readRange a b = some (first, last)) : first ≤ last := by
  unfold readRange at h
  split at h
  · split at h
    · next hle =>
      cases h
      exact hle
    · cases h
  · cases h

theorem startMask_maskSound {s : State} (r : Request) (hload : s.loading = false) (hs : MaskSound s) :
    MaskSound (State.startMask r s) := by
  unfold State.startMask
  split
  · split
    · next first last hrange =>
      refine maskSound_of_current hload hs.1 fun c hc => ?_
      cases hc
      exact ⟨⟨readRange_le hrange, Nat.zero_le _⟩, fun _ => CurrentRequest.noConfusion⟩
    · exact answer_maskSound _ _ (Nat.zero_le _) hs
  · exact answer_maskSound _ _ (Nat.zero_le _) hs

theorem startUnmask_maskSound {s : State} (pace : Nat) (r : Request) (hload : s.loading = false) (hs : MaskSound s) :
    MaskSound (State.startUnmask pace r s) := by
  unfold State.startUnmask
  split
  · split
    · next first last hrange =>
      refine unmaskOn_maskSound hload hs.1 ⟨⟨?_, Nat.zero_le _, le_rfl⟩, fun p hp => by cases hp⟩ pace
      exact Nat.le_succ_of_le (readRange_le hrange)
    · exact answer_maskSound _ _ (Nat.zero_le _) hs
  · exact answer_maskSound _ _ (Nat.zero_le _) hs

theorem startRestart_maskSound {s : State} (r : Request) (hload : s.loading = false) (hs : MaskSound s) :
    MaskSound (State.startRestart r s) := by
  unfold State.startRestart
  split
  · refine maskSound_of_current hload hs.1 fun c hc => ?_
    cases hc
    exact ⟨⟨List.cons_ne_nil _ _, (by decide : [RestartPart.delivery, .latches, .pointers].Nodup)⟩,
      fun _ => CurrentRequest.noConfusion⟩
  · exact answer_maskSound _ _ (Nat.zero_le _) hs

/-- An arrival keeps the masks, and latches at a masked index. -/
theorem Arrived.maskSound {P : Leave} {s b : State} (h : Arrived P s b) (hload : s.loading = false) (hs : MaskSound s) :
    MaskSound b := by
  rcases h with ⟨m, pointers, hm, rfl⟩ | ⟨i, o, hmask, rfl⟩
  · exact (maskSound_same hm.sameMasks hs :)
  · obtain ⟨hmasked, -, hclear, hcurrent⟩ := hs
    refine ⟨fun j hj => ?_, fun h => absurd (hload.symm.trans h) Bool.noConfusion, hclear, hcurrent⟩
    dsimp only at hj
    rw [vector_set_get] at hj
    split at hj
    · next heq => exact heq ▸ hmask
    · exact hmasked j hj

theorem count_runSound {u : UnmaskRun} {p : Latch} (hpresented : u.presented = some p) (hu : RunSound (.unmask u))
    (outcome : ArrivalOutcome) : RunSound (.unmask (u.count outcome)) ∧ (u.count outcome).presented = none := by
  obtain ⟨hnext, hcleared, hcounted⟩ := hu
  have hcounted : u.placed + u.refused + 1 ≤ u.cleared := by simpa [hpresented] using hcounted
  cases outcome with
  | placed => exact ⟨⟨hnext, hcleared, by simp only [UnmaskRun.count, Option.toList_none, List.length_nil]; omega⟩, rfl⟩
  | refused _ => exact ⟨⟨hnext, hcleared, by simp only [UnmaskRun.count, Option.toList_none, List.length_nil]; omega⟩, rfl⟩
  | latched => exact ⟨⟨hnext, hcleared, by simp only [UnmaskRun.count, Option.toList_none, List.length_nil]; omega⟩, rfl⟩

theorem Arrived.loading {P : Leave} {s b : State} (h : Arrived P s b) : b.loading = s.loading :=
  congrArg Still.loading h.still

theorem MaskEffect.maskSound {s t : State} {c : Instr} (h : MaskEffect s c t) (hs : MaskSound s) : MaskSound t := by
  have ⟨hmasked, hempty, hclear, hrunning⟩ := hs
  have hdequeued : MaskSound (dequeued s) := hs
  cases h with
  | same c h => exact maskSound_same h hs
  | reset h =>
    cases h
    refine ⟨fun i hi => ?_, fun _ => ⟨fun i => ?_, rfl⟩, fun u hu => ?_, fun c hc => ?_⟩
    · simp at hi
    · simp
    · cases hu
    · cases hc
  | load hload hloaded hlatches hcurrent hpointers =>
    obtain ⟨hnone, hidle⟩ := hempty hload
    refine maskSound_of_current hloaded (fun i hi => ?_) fun c hc => ?_
    · rw [hlatches, hnone i] at hi
      cases hi
    · rw [hcurrent, hidle] at hc
      cases hc
  | arrived hc hload ha harrived ht =>
    exact maskSound_same ht (harrived.maskSound (ha.loading.trans hload) (maskSound_same ha hs))
  | release hu hlatch hload ha =>
    have ha' := ha.maskSound hload hs
    obtain ⟨hsound, hnone⟩ := count_runSound hlatch (hrunning _ hu) _
    exact unmaskOn_maskSound (ha.loading.trans hload) ha'.1 ⟨hsound, fun p hp => by rw [hnone] at hp; cases hp⟩ _
  | maskNext hm hload => exact maskNext_maskSound hload hmasked (hrunning _ hm)
  | startMask hr => exact startMask_maskSound _ (nextRequest_idle hr).1 hdequeued
  | @unmaskOn u _ hu hload =>
    refine unmaskOn_maskSound hload hmasked ⟨hrunning _ hu, hclear u ?_⟩ _
    unfold State.unmasking
    rw [hu]
    rfl
  | startUnmask hr => exact startUnmask_maskSound _ _ (nextRequest_idle hr).1 hdequeued
  | restartNext hrun hload => exact restartNext_maskSound hload hs (hrunning _ hrun)
  | startRestart hr => exact startRestart_maskSound _ (nextRequest_idle hr).1 hdequeued

/-- Settles O13: a latch is made at a masked index and removed as the flag is cleared, and a current request takes one
index or handling at a time. -/
theorem latchesStayMasked : Obligations.LatchesStayMasked :=
  step_keeps (I := MaskSound) (fun _ _ => id) fun _ _ _ hs h => (exec_any h).masks.maskSound hs

/-! ## What only a few commands change (R1, R17, R43, R52, R65, R80, R133, R183) -/

/-- The still part of the machine changes by its own commands alone. -/
structure OnlyTheirs (s : State) (c : Instr) (x : Still) : Prop where
  active : x.active ≠ s.active → c = .commit ∨ c = .fullReset ∨ c = .imageLoad
  frozen : x.frozen ≠ s.frozen → c = .freeze ∨ c = .fullReset
  copyState : x.copyState ≠ s.copyState → c = .commit ∨ c = .copyPhaseEnd ∨ c = .fullReset
  banks : x.bankA ≠ s.bankA ∨ x.bankB ≠ s.bankB →
    c = .writeEntry ∨ c = .writeWindow ∨ c = .copyPhaseEnd ∨ c = .imageLoad
  maskMap : x.maskMap ≠ s.maskMap →
    c = .maskRange ∨ (∃ pace, c = .unmaskRange pace) ∨ (∃ order pace, c = .release order pace) ∨ c = .fullReset ∨
      c = .imageLoad
  arriving : x.arriving ≠ s.arriving → (∃ n order, c = .externalArrival n order) ∨ c = .fullReset
  presented : x.presented ≠ s.presented → (∃ order, c = .internalArrival order) ∨ c = .fullReset
  slots : x.slots ≠ s.slots → c = .saveTables ∨ (∃ y z, c = .saveEnd y z) ∨ c = .fullReset
  loaded : x.loaded ≠ s.loaded → c = .imageLoad
  timers : x.timers ≠ s.timers → c = .setLink ∨ c = .imageLoad

theorem StillMoves.only {s : State} {c : Instr} {x : Still} (h : StillMoves s c x) : OnlyTheirs s c x := by
  cases h with
  | masks _ hc =>
    rcases hc with rfl | ⟨pace, rfl⟩ | ⟨order, pace, rfl⟩ <;> constructor <;> simp [State.still]
  | copied =>
    obtain ⟨bankA, bankB, hbank⟩ := setBank_still s s.active.other s.activeBank
    rw [hbank]
    constructor <;> simp [State.still]
  | write _ hc b =>
    obtain ⟨bankA, bankB, hbank⟩ := setBank_still s s.active.other b
    rw [hbank]
    rcases hc with rfl | rfl <;> constructor <;> simp [State.still]
  | startSave r =>
    rw [startSave_still]
    constructor <;> simp [State.still]
  | _ => constructor <;> simp [State.still]

theorem unmaskOn_pointers (s : State) (u : UnmaskRun) (pace : Nat) : (s.unmaskOn u pace).pointers = s.pointers := by
  obtain ⟨_, _, _, h⟩ := unmaskOn_remasked (P := .any) s u pace
  exact h.sameMasks.pointers

theorem MaskEffect.pointers {s t : State} {c : Instr} (h : MaskEffect s c t) (hne : t.pointers ≠ s.pointers) :
    (∃ n order, c = .externalArrival n order) ∨ (∃ order, c = .internalArrival order) ∨
      (∃ order pace, c = .release order pace) ∨ c = .restart ∨ c = .fullReset := by
  cases h with
  | same c h => exact absurd h.pointers hne
  | reset => simp
  | load _ _ _ _ hpointers => exact absurd hpointers hne
  | arrived hc => exact hc.imp_right .inl
  | release => simp
  | @maskNext m =>
    obtain ⟨_, _, _, h⟩ := maskNext_remasked (P := .any) s m
    exact absurd h.sameMasks.pointers hne
  | @startMask r =>
    obtain ⟨_, _, _, h⟩ := startMask_remasked (P := .any) r (dequeued s)
    exact absurd h.sameMasks.pointers hne
  | unmaskOn => exact absurd (unmaskOn_pointers ..) hne
  | @startUnmask r pace =>
    obtain ⟨_, _, _, h⟩ := startUnmask_remasked (P := .any) pace r (dequeued s)
    exact absurd h.sameMasks.pointers hne
  | restartNext => simp
  | startRestart => simp

/-- The fault list is no shorter than that of `s`. -/
def FaultsKept (s b : State) : Prop :=
  s.faults.length ≤ b.faults.length

theorem faultsKept_kept (s : State) : Kept .any (FaultsKept s) where
  proceeds h ha := ha.trans h.faults_length
  moving ha h := by
    obtain ⟨-, -, hfaults, -⟩ := moving_eq h
    unfold FaultsKept
    rwa [hfaults]
  raise a e w ha := by
    unfold FaultsKept
    rwa [State.raiseEvent_faults]
  present _ _ _ _ ha := ha
  restart _ ha := ha

/-- Only CLEAR_FAULTS and FULL_RESET make the fault list shorter (R137, R139). -/
theorem Effect.faults {s t : State} {c : Instr} (h : Effect .any s c t) (hless : t.faults.length < s.faults.length) :
    c = .clearFaults ∨ c = .fullReset := by
  by_contra hnot
  obtain ⟨hclear, hreset⟩ := not_or.1 hnot
  have hkept : FaultsKept s t := (faultsKept_kept s).of_effect h le_rfl
    { reset := fun hc => absurd hc hreset
      load := fun _ hload hb => by
        rcases execImageLoad_cases hload hb with ⟨im, loaded, _, _, -, rfl⟩ | rfl
        · exact le_rfl
        · exact report_faults_length (imageLoaded s Image.start none) noImageFault false
      event := fun n p m _ _ ht => ht ▸ (faultsKept_kept s).of_endEvent n p trivial
      admitted := fun _ _ _ _ _ _ _ => le_rfl
      record := fun _ _ _ _ => id
      clear := fun hc => absurd hc hclear }
  exact absurd hkept (not_le.2 hless)

/-- The stack of the target is no deeper than in `s`. -/
def StackKept (s : State) (t : TargetNo) (b : State) : Prop :=
  b.targets[t].stack.length ≤ s.targets[t].stack.length

theorem stackKept_kept {P : Leave} (s : State) {t : TargetNo} (hclaim : ¬ P.claim t) : Kept P (StackKept s t) where
  proceeds h ha := (h.stack_length hclaim).trans ha
  moving ha h := by
    obtain ⟨-, htargets, -⟩ := moving_eq h
    unfold StackKept
    rwa [htargets]
  raise a e w ha := by
    unfold StackKept
    rwa [State.raiseEvent_targets]
  present _ _ _ _ ha := ha
  restart a ha := by
    unfold StackKept restarted
    simp [Target.restart]

theorem execImageLoad_targets {s t : State} (hload : s.loading = true) (h : execImageLoad s = .next t) :
    t.targets = s.targets := by
  rcases execImageLoad_cases hload h with ⟨im, loaded, _, _, -, rfl⟩ | rfl
  · rfl
  · exact State.report_targets ..

/-- Claims may be taken by their own command alone. -/
def Leave.byClaims (c : Instr) : Leave :=
  { Leave.any with claim := fun t => c = .claimFrame t }

/-- Only CLAIM makes a stack deeper (R80). -/
theorem exec_stack {s b : State} {c : Instr} (h : exec c s = .next b) {t : TargetNo}
    (hdeeper : s.targets[t].stack.length < b.targets[t].stack.length) : c = .claimFrame t := by
  by_contra hclaim
  have hkept : StackKept s t b := (stackKept_kept (P := .byClaims c) s hclaim).of_effect
    (exec_effect False.elim (fun _ => id) h) le_rfl
    { reset := fun _ hb => by
        cases hb
        simp [StackKept, Target.reset]
      load := fun _ hload hb => by
        unfold StackKept
        rw [execImageLoad_targets hload hb]
      event := fun n p m _ _ ht => ht ▸ (stackKept_kept (P := .byClaims c) s hclaim).of_endEvent n p trivial
      admitted := fun _ _ _ _ _ _ _ => le_rfl
      record := fun _ _ _ _ => id
      clear := fun _ _ _ _ => id }
  exact absurd hkept (not_le.2 hdeeper)

/-- Settles O26: the cases of `Effect` name what each command may change. -/
theorem onlyTheirCommandsChange : Obligations.OnlyTheirCommandsChange := by
  intro c s t h
  have heffect := exec_any h
  obtain ⟨hactive, hfrozen, hcopy, hbanks, hmask, harriving, hpresented, hslots, hloaded, htimers⟩ := heffect.still.only
  exact ⟨hactive, hfrozen, hcopy, hbanks, hmask, heffect.masks.pointers, harriving, hpresented, hslots, hloaded,
    htimers, heffect.faults, fun g => exec_stack h⟩

end Sys2Proof.Proofs
end

section
/-! Targets that owe no offer or wake (O20), and links in agreement with their targets and their EVENT frames in
progress (O15). -/

open Sys2Proof Sys2Proof.Machine

namespace Sys2Proof.Proofs

/-! ## Nothing overdue (R97, R115, R116) -/

/-- No level of any target is overdue. -/
def NothingDue (s : State) : Prop :=
  ∀ t l, NotDue s t l

theorem nothingDue_of_empty {s : State} (h : s.records = []) : NothingDue s := by
  intro t l r hr
  rw [h] at hr
  cases hr

theorem NothingDue.of_eq {s b : State} (hrecords : b.records = s.records) (htargets : b.targets = s.targets)
    (h : NothingDue s) : NothingDue b :=
  fun t l => NotDue.of_eq hrecords htargets (h t l)

theorem nothingDue_kept : Kept .prompt NothingDue where
  proceeds h ha t l := h.notDue id (ha t l)
  moving ha h := by
    obtain ⟨hrecords, htargets, -⟩ := moving_eq h
    exact ha.of_eq hrecords htargets
  raise a e w ha := ha.of_eq (State.raiseEvent_records ..) (State.raiseEvent_targets ..)
  present _ _ _ _ ha := ha
  restart a _ := nothingDue_of_empty rfl

/-- Settles O20: whatever makes a record eligible or ends an offer is followed by a re-examination, a report of the
placement, or the examination at entry into ASLEEP. -/
theorem nothingStaysOverdue : Obligations.NothingStaysOverdue := by
  refine step_keeps (I := NothingOverdue) (fun _ _ => id) fun c s t hs h => ?_
  have hs : NothingDue s := (nothingOverdue_iff s).1 hs
  refine (nothingOverdue_iff t).2 (nothingDue_kept.of_effect (exec_effect False.elim (fun _ _ => trivial) h) hs
    { reset := ?_, load := ?_, event := ?_, admitted := ?_, record := ?_, clear := ?_ })
  · rintro - ⟨⟩
    exact nothingDue_of_empty rfl
  · exact fun _ hload hb => hs.of_eq (execImageLoad_records hload hb) (execImageLoad_targets hload hb)
  · rintro n p m - - rfl
    exact nothingDue_kept.of_endEvent n p trivial
  · exact fun _ _ _ _ _ _ _ => hs
  · exact fun _ _ _ _ => id
  · exact fun _ _ _ _ => id

/-! ## Links in agreement (R43, R95, R141, R147, R150, R152, R156) -/

/-- Every link is in agreement, with the image load and the EVENT frames in progress as given. -/
def AllFit (x : Bool) (y : Vector (Option PassedEvent) 12) (s : State) : Prop :=
  ∀ l, LinkFits x y s l

theorem linksSound_iff (s : State) : LinksSound s ↔ AllFit s.loading s.arriving s := by
  constructor
  · rintro ⟨hlinks, htargets, hevents⟩ l
    obtain ⟨hsound, hdown⟩ := hlinks l
    exact ⟨hsound, hdown, fun t ht => ht ▸ htargets t, fun n hn p hp => hn ▸ hevents n p hp⟩
  · intro h
    refine ⟨fun l => ?_, fun t => ?_, fun n p hp => ?_⟩
    · obtain ⟨hsound, hdown, -⟩ := h l
      exact ⟨hsound, hdown⟩
    · obtain ⟨-, -, htarget, -⟩ := h (targetLink t)
      exact htarget t rfl
    · obtain ⟨-, -, -, hevent⟩ := h (sourceLink n)
      exact hevent n rfl p hp

/-- No link may be left. -/
def Leave.noLink : Leave :=
  { Leave.any with link := fun _ => False }

section Agreement

variable {x : Bool} {y : Vector (Option PassedEvent) 12} {s b : State}

theorem AllFit.of_eq (hlinks : b.links = s.links) (htargets : b.targets = s.targets) (hs : AllFit x y s) :
    AllFit x y b :=
  fun l => LinkFits.of_grows (by rw [hlinks]; exact .refl _) (fun _ _ => by rw [htargets]) (hs l)

/-- A target after a RESTART is OFFLINE exactly while its link is not UP (R126). -/
theorem AllFit.restarted (hs : AllFit x y s) : AllFit x y (restarted s) := by
  intro l
  obtain ⟨hsound, hdown, -, hevents⟩ := hs l
  refine ⟨hsound, hdown, fun t ht => ?_, hevents⟩
  have hup : (Proofs.restarted s).isUp l = s.isUp l := rfl
  rw [hup, ht]
  cases h : s.isUp (targetLink t) <;> simp [Proofs.restarted, Target.restart, Target.enter, h]

end Agreement

theorem allFit_kept (x : Bool) (y : Vector (Option PassedEvent) 12) : Kept .noLink (AllFit x y) where
  proceeds h ha l := h.linkFits id (ha l)
  moving ha h := by
    obtain ⟨-, htargets, -, -, -, hlinks, -⟩ := moving_eq h
    exact ha.of_eq hlinks htargets
  raise a e w ha := ha.of_eq (State.raiseEvent_links ..) (State.raiseEvent_targets ..)
  present _ _ _ _ ha := ha
  restart _ ha := ha.restarted

theorem sourceLink_injective {n m : SourceLink} (h : sourceLink n = sourceLink m) : n = m := by
  revert n m
  decide

/-- The end of an EVENT in progress takes the frame out of its buffer, and no frame of the link is in progress any
longer (R43, R151). -/
theorem AllFit.eventEnded {x : Bool} {y : Vector (Option PassedEvent) 12} {m : State} {n : SourceLink}
    (p : PassedEvent) (hy : y[n] = none) (hm : AllFit x y m) : AllFit x y (m.eventEnded n p) := by
  have hended : AllFit x y { m with arriving := m.arriving.set n none } := hm
  unfold State.eventEnded
  dsimp only
  split
  · next h =>
    have hup := isUp_iff.1 h.1
    intro l
    by_cases hl : l = sourceLink n
    · subst hl
      obtain ⟨hsound, hdown, htarget, -⟩ := hended (sourceLink n)
      refine ⟨?_, ?_, ?_, fun k hk q hq => ?_⟩
      · rw [State.withLink_self]
        exact finished_sound hup List.length_eraseP_le hsound
      · rw [State.withLink_self]
        exact hdown
      · rw [State.isUp, State.withLink_self]
        exact htarget
      · rw [← sourceLink_injective hk, hy] at hq
        cases hq
    · exact Proceeds.linkFits_other hl (hended l)
  · exact hended

theorem eventEnded_arriving (m : State) (n : SourceLink) (p : PassedEvent) : (m.eventEnded n p).arriving[n] = none := by
  have h : (m.eventEnded n p).arriving = m.arriving.set n none := by
    unfold State.eventEnded
    dsimp only
    split <;> rfl
  rw [h, vector_set_get, if_pos rfl]

/-- With its record changed, a link is in agreement as before. -/
theorem AllFit.withRecord {x : Bool} {y : Vector (Option PassedEvent) 12} {s : State} (l : LinkNo) (r : LinkRecord)
    (hs : AllFit x y s) : AllFit x y (s.withLink l { s.links[l] with record := r }) := by
  intro m
  by_cases hm : m = l
  · subst hm
    exact linkFits_withLink (k := { s.links[m] with record := r }) rfl rfl (fun h => h) (fun _ => id) x y (hs m)
  · exact Proceeds.linkFits_other hm (hs m)

theorem fullReset_linksSound {s t : State} (h : execFullReset s = .next t) : LinksSound t := by
  cases h
  refine ⟨fun l => ?_, fun g => ?_, fun n p hp => ?_⟩
  · simp [LinkSound, Link.reset, Config.startGrant]
  · simp [Target.reset, State.isUp, Link.reset]
  · simp at hp

/-- A link that was DOWN calls its peer (R20, R143). -/
theorem calling_sound {k : Link} (l : LinkNo) (hdown : k.state = .down) (hk : LinkSound k) :
    LinkSound (k.calling l) := by
  have hnot : k.state ≠ .up := by
    rw [hdown]
    exact LinkState.noConfusion
  obtain ⟨-, herrors, -, -, -, -, hempty⟩ := hk
  obtain ⟨hingress, htransmit, hgrant⟩ := hempty hnot
  exact idle_sound hingress htransmit hgrant herrors LinkState.noConfusion (iff_of_true rfl rfl)
    (fun h => absurd h Bool.noConfusion)

theorem execImageLoad_loading {s t : State} (hload : s.loading = true) (h : execImageLoad s = .next t) :
    t.loading = false ∧ t.arriving = s.arriving := by
  rcases execImageLoad_cases hload h with ⟨im, loaded, _, _, -, rfl⟩ | rfl
  · exact ⟨rfl, rfl⟩
  · exact ⟨congrArg Still.loading (State.report_still ..), congrArg Still.arriving (State.report_still ..)⟩

theorem imageLoad_linksSound {s t : State} (hload : s.loading = true) (h : execImageLoad s = .next t)
    (hs : LinksSound s) : LinksSound t := by
  obtain ⟨hlinks, htargets, hevents⟩ := hs
  obtain ⟨hloading, harriving⟩ := execImageLoad_loading hload h
  have hdown : ∀ l : LinkNo, s.links[l].state = .down := fun l => (hlinks l).2.2 hload
  refine ⟨fun l => ?_, fun g => ?_, fun n p hp => ?_⟩
  · obtain ⟨record, hlink⟩ := execImageLoad_link hload h l
    rw [hlink, hloading]
    exact ⟨calling_sound l (hdown l) (hlinks l).1, iff_of_false LinkState.noConfusion Bool.noConfusion⟩
  · obtain ⟨record, hlink⟩ := execImageLoad_link hload h (targetLink g)
    have hnot : s.isUp (targetLink g) = false := by rw [State.isUp, hdown]; rfl
    have hnot' : t.isUp (targetLink g) = false := by rw [State.isUp, hlink]; rfl
    rw [execImageLoad_targets hload h, htargets g]
    exact iff_of_true hnot hnot'
  · rw [harriving] at hp
    exact absurd ((hevents n p hp).1.symm.trans hload) Bool.noConfusion

/-- An EVENT frame in progress was so before, or is the oldest of its buffer (R150). -/
theorem StillMoves.events {s : State} {c : Instr} {x : Still} (h : StillMoves s c x) (hreset : c ≠ .fullReset)
    (hload : c = .imageLoad → s.loading = false) : x.loading = s.loading ∧
      ∀ n : SourceLink, ∀ p ∈ x.arriving[n], s.arriving[n] = some p ∨ s.loading = false ∧
        p.session = s.links[sourceLink n].session ∧
          s.links[sourceLink n].ingress.find? InFrame.isEvent = some (.event p.event p.payload) := by
  cases h with
  | reset => exact absurd rfl hreset
  | load im loaded hloading => exact absurd ((hload rfl).symm.trans hloading) Bool.noConfusion
  | arriving m order q hrunning draws hq =>
    refine ⟨rfl, fun n p hp => ?_⟩
    dsimp only at hp
    rw [vector_set_get] at hp
    split at hp
    · next heq =>
      subst heq
      exact .inr ⟨hrunning, hq p hp⟩
    · exact .inl hp
  | copied =>
    obtain ⟨bankA, bankB, hbank⟩ := setBank_still s s.active.other s.activeBank
    rw [hbank]
    exact ⟨rfl, fun _ _ => .inl⟩
  | write _ hc b =>
    obtain ⟨bankA, bankB, hbank⟩ := setBank_still s s.active.other b
    rw [hbank]
    exact ⟨rfl, fun _ _ => .inl⟩
  | _ => exact ⟨rfl, fun _ _ => .inl⟩

/-- Settles O15: every operation leaves its link with what its state allows, a session end comes before each change
out of UP, and an EVENT frame holds its place until it is finished. -/
theorem linksStaySound : Obligations.LinksStaySound := by
  refine step_keeps (I := LinksSound) (fun _ _ => id) fun c s t hs h => ?_
  by_cases hreset : c = .fullReset
  · subst hreset
    exact fullReset_linksSound h
  · by_cases hloads : c = .imageLoad ∧ s.loading = true
    · obtain ⟨rfl, hload⟩ := hloads
      exact imageLoad_linksSound hload h hs
    · have hload : c = .imageLoad → s.loading = false := fun hc => by simpa [hc] using hloads
      obtain ⟨hloading, hevents⟩ := (exec_any h).still.events hreset hload
      have heffect : Effect .noLink s c t := exec_effect False.elim (fun _ _ => trivial) h
      have hs' : AllFit t.loading t.arriving s := fun l => by
        obtain ⟨hsound, hdown, htarget, hevent⟩ := (linksSound_iff s).1 hs l
        refine ⟨hsound, by rw [show t.loading = s.loading from hloading]; exact hdown, htarget, ?_⟩
        rintro n rfl p hp
        rw [show t.loading = s.loading from hloading]
        rcases hevents n p hp with hp | ⟨hload, hsession, hfind⟩
        · exact hevent n rfl p hp
        · exact ⟨hload, hsession.le, fun _ _ => hfind⟩
      refine (linksSound_iff t).2 ((allFit_kept _ _).of_effect heffect hs'
        { reset := fun hc => absurd hc hreset
          load := fun hc hload' => absurd ⟨hc, hload'⟩ hloads
          event := ?_
          admitted := fun _ _ _ _ _ _ _ => hs'
          record := fun l r _ _ hd => hd.withRecord l r
          clear := fun _ _ _ _ => id })
      rintro n p m - - rfl hm
      rw [State.endEvent_eq] at hm ⊢
      exact hm.eventEnded p (eventEnded_arriving ..)

end Sys2Proof.Proofs
end

section
/-! The pool, the offers and the stacks after each move of the Delivery Controller (R22, R79, R95). -/

open Sys2Proof Sys2Proof.Machine

namespace Sys2Proof.Proofs

/-! ## Records under offer, in outline -/

/-- What the offers and the stacks need of a record: its slot, its level, and the tag of its offer. -/
structure Outline where
  slot : SlotNo
  level : Level
  tag : Option Byte

def outline (r : Record) : Outline :=
  { slot := r.slot, level := r.level, tag := r.offer.map OfferMark.tag }

/-- The records of a target that are under offer, in outline. -/
def outlines (s : State) (t : TargetNo) : List Outline :=
  (s.underOffer t).map outline

/-- The block of a target agrees with its records under offer: exactly one in OFFERED and none otherwise, each more
urgent than every entry of the stack (R79, R81, R95). -/
structure TargetFits (os : List Outline) (g : Target) : Prop where
  offer : if g.state = .offered then
      ∃ n l tag, os = [{ slot := n, level := l, tag := some tag }] ∧ g.offer = some { tag := tag, slot := n }
    else os = [] ∧ g.offer = none
  stack : g.stack.Pairwise fun upper lower => upper.level < lower.level
  urgent : ∀ o ∈ os, ∀ e ∈ g.stack, o.level < e.level
  timers : TimersSound g

theorem offerSound_iff (s : State) (t : TargetNo) : OfferSound s t ↔
    if s.targets[t].state = .offered then
      ∃ n l tag, outlines s t = [{ slot := n, level := l, tag := some tag }] ∧
        s.targets[t].offer = some { tag := tag, slot := n }
    else outlines s t = [] ∧ s.targets[t].offer = none := by
  unfold OfferSound outlines
  split
  · constructor
    · rintro ⟨r, hr, hunder, hoffer⟩
      have hmem : r ∈ s.underOffer t := by rw [hunder]; exact List.mem_singleton.2 rfl
      obtain ⟨m, hm⟩ := Option.isSome_iff_exists.1 (show r.offer.isSome = true by
        simpa using (Bool.and_eq_true_iff.1 (List.mem_filter.1 hmem).2).2)
      exact ⟨r.slot, r.level, m.tag, by rw [hunder]; simp [outline, hm], by rw [hoffer, hm]; rfl⟩
    · rintro ⟨n, l, tag, houtlines, hoffer⟩
      obtain ⟨r, hunder, heq⟩ := List.map_eq_singleton_iff.1 houtlines
      have hmem : r ∈ s.underOffer t := by rw [hunder]; exact List.mem_singleton.2 rfl
      refine ⟨r, (List.mem_filter.1 hmem).1, hunder, ?_⟩
      simp only [outline, Outline.mk.injEq] at heq
      obtain ⟨rfl, -, htag⟩ := heq
      obtain ⟨m, hm, rfl⟩ := Option.map_eq_some_iff.1 htag
      rw [hoffer, hm]
      rfl
  · rw [List.map_eq_nil_iff]

theorem deliverySound_iff (s : State) :
    DeliverySound s ↔ SlotsSound s ∧ ∀ t : TargetNo, TargetFits (outlines s t) s.targets[t] := by
  refine and_congr_right fun _ => forall_congr' fun t => ?_
  constructor
  · rintro ⟨hoffer, ⟨hstack, hurgent⟩, htimers⟩
    refine ⟨(offerSound_iff s t).1 hoffer, hstack, fun o ho => ?_, htimers⟩
    obtain ⟨r, hr, rfl⟩ := List.mem_map.1 ho
    exact hurgent r hr
  · rintro ⟨hoffer, hstack, hurgent, htimers⟩
    exact ⟨(offerSound_iff s t).2 hoffer, ⟨hstack, fun r hr => hurgent _ (List.mem_map_of_mem hr)⟩, htimers⟩

/-! ## Changes of the pool -/

theorem mem_underOffer {s : State} {t : TargetNo} {r : Record} :
    r ∈ s.underOffer t ↔ r ∈ s.records ∧ r.target = t ∧ r.offer.isSome = true := by
  simp [State.underOffer]

theorem record_unique {s : State} (h : SlotsSound s) {x y : Record} (hx : x ∈ s.records) (hy : y ∈ s.records)
    (hslot : x.slot = y.slot) : x = y :=
  List.inj_on_of_nodup_map h hx hy hslot

/-- Records that keep target and outline, as far as the target goes. -/
theorem outlines_map {s : State} {t : TargetNo} {f : Record → Record}
    (h : ∀ r ∈ s.records, ((f r).target = t ↔ r.target = t) ∧ (r.target = t → outline (f r) = outline r)) :
    outlines (s.setRecords (s.records.map f)) t = outlines s t := by
  have hkeep : ∀ rs : List Record, (∀ r ∈ rs, r ∈ s.records) →
      ((rs.map f).filter fun r => r.target == t && r.offer.isSome).map outline =
        (rs.filter fun r => r.target == t && r.offer.isSome).map outline := by
    intro rs
    induction rs with
    | nil => exact fun _ => rfl
    | cons r rs ih =>
      intro hrs
      obtain ⟨htarget, houtline⟩ := h r (hrs r List.mem_cons_self)
      have ih := ih fun x hx => hrs x (List.mem_cons_of_mem r hx)
      by_cases ht : r.target = t
      · have hsome : (f r).offer.isSome = r.offer.isSome := by
          have := congrArg (Option.isSome ∘ Outline.tag) (houtline ht)
          simpa [outline] using this
        cases hr : r.offer.isSome <;> simp_all
      · have ht' : ¬ (f r).target = t := fun h => ht (htarget.1 h)
        simp_all
  exact hkeep s.records fun _ => id

/-- Records that are freed while not under offer. -/
theorem outlines_filter {s : State} {t : TargetNo} {p : Record → Bool}
    (h : ∀ r ∈ s.records, r.target = t → r.offer.isSome = true → p r = true) :
    outlines (s.setRecords (s.records.filter p)) t = outlines s t := by
  unfold outlines State.underOffer State.setRecords
  dsimp only
  rw [List.filter_filter]
  refine congrArg (List.map outline) (List.filter_congr fun r hr => ?_)
  by_cases hunder : r.target = t ∧ r.offer.isSome = true
  · simp [hunder.1, hunder.2, h r hr hunder.1 hunder.2]
  · have hnot : (r.target == t && r.offer.isSome) = false := by simpa [and_comm] using hunder
    rw [hnot, Bool.false_and]

theorem outlines_append {s : State} {t : TargetNo} {x : Record} (hx : x.offer = none) :
    outlines (s.setRecords (s.records ++ [x])) t = outlines s t := by
  simp [outlines, State.underOffer, State.setRecords, hx]

theorem slotsSound_map {s : State} {f : Record → Record} (hf : ∀ r, (f r).slot = r.slot) (hs : SlotsSound s) :
    SlotsSound (s.setRecords (s.records.map f)) := by
  have heq : (s.records.map f).map Record.slot = s.records.map Record.slot := by
    rw [List.map_map]
    exact List.map_congr_left fun r _ => hf r
  unfold SlotsSound State.setRecords
  dsimp only
  rwa [heq]

theorem slotsSound_filter {s : State} (p : Record → Bool) (hs : SlotsSound s) :
    SlotsSound (s.setRecords (s.records.filter p)) :=
  hs.sublist (List.filter_sublist.map Record.slot)

theorem slotsSound_append {s : State} {x : Record} (hx : x.slot ∈ s.freeSlots) (hs : SlotsSound s) :
    SlotsSound (s.setRecords (s.records ++ [x])) := by
  unfold SlotsSound State.setRecords
  dsimp only
  rw [List.map_append, List.nodup_append]
  refine ⟨hs, List.nodup_singleton _, ?_⟩
  rintro a ha b hb rfl
  obtain rfl := List.mem_singleton.1 hb
  exact State.mem_freeSlots.1 hx ha

/-- One record of the pool is changed, as far as another target goes. -/
theorem outlines_change_ne {s : State} (hs : SlotsSound s) {r : Record} (hr : r ∈ s.records) {t : TargetNo}
    (ht : r.target ≠ t) {f : Record → Record} (hf : ∀ x, (f x).target = x.target) :
    outlines (s.changeRecord r.slot f) t = outlines s t := by
  refine outlines_map fun x hx => ?_
  split
  · next hslot =>
    obtain rfl := record_unique hs hx hr hslot
    rw [hf]
    exact ⟨Iff.rfl, fun h => absurd h ht⟩
  · exact ⟨Iff.rfl, fun _ => rfl⟩

theorem outlines_free_ne {s : State} (hs : SlotsSound s) {r : Record} (hr : r ∈ s.records) {t : TargetNo}
    (h : r.target ≠ t ∨ r.offer = none) : outlines (s.freeRecord r.slot) t = outlines s t := by
  refine outlines_filter fun x hx hxt hsome => ?_
  simp only [bne_iff_ne, ne_eq]
  intro hslot
  obtain rfl := record_unique hs hx hr hslot
  rcases h with h | h
  · exact h hxt
  · rw [h] at hsome
    cases hsome

/-- Folding an arrival changes no outline. -/
theorem outlines_fold (s : State) (n : SlotNo) (added : Nat) (p : List Word) (o : Origin) (t : TargetNo) :
    outlines (s.changeRecord n fun x => x.fold added p o) t = outlines s t := by
  refine outlines_map fun x _ => ?_
  obtain ⟨hslot, htarget, -, hlevel, -, hoffer⟩ := fold_fixed x added p o
  split
  · exact ⟨by rw [htarget], fun _ => by simp only [outline, hslot, hlevel, hoffer]⟩
  · exact ⟨Iff.rfl, fun _ => rfl⟩

theorem slotsSound_change {s : State} (n : SlotNo) {f : Record → Record} (hf : ∀ r, (f r).slot = r.slot)
    (hs : SlotsSound s) : SlotsSound (s.changeRecord n f) :=
  slotsSound_map (fun r => by split <;> simp [hf]) hs

/-! ## The record of the current offer -/

/-- In a sound state the current offer is for the one record of its target that is under offer. -/
theorem currentOffer_sound {s : State} (hs : DeliverySound s) {t : TargetNo} {o : Offer} {r : Record} {m : OfferMark}
    (h : s.currentOffer t = some (o, r, m)) :
    r ∈ s.records ∧ r.target = t ∧ s.underOffer t = [r] ∧ ∀ e ∈ s.targets[t].stack, r.level < e.level := by
  obtain ⟨hstate, hoffer, hrecord, -⟩ := State.currentOffer_some h
  obtain ⟨hr, hslot⟩ := State.recordAt_some hrecord
  obtain ⟨hslots, htargets⟩ := hs
  obtain ⟨hoffered, ⟨-, hurgent⟩, -⟩ := htargets t
  rw [OfferSound, if_pos hstate] at hoffered
  obtain ⟨x, hx, hunder, hxoffer⟩ := hoffered
  rw [hoffer] at hxoffer
  obtain ⟨mark, -, heq⟩ := Option.map_eq_some_iff.1 hxoffer.symm
  have hxr : x = r := record_unique hslots hx hr (by rw [hslot, ← heq])
  subst hxr
  have hmem : x ∈ s.underOffer t := by rw [hunder]; exact List.mem_singleton.2 rfl
  exact ⟨hr, (mem_underOffer.1 hmem).2.1, hunder, hurgent x hmem⟩

/-- Without a current offer no record of the target is under offer. -/
theorem outlines_of_idle {s : State} (hs : DeliverySound s) {t : TargetNo} (h : s.currentOffer t = none) :
    s.targets[t].state ≠ .offered ∧ outlines s t = [] := by
  obtain ⟨hslots, htargets⟩ := hs
  obtain ⟨hoffered, -, -⟩ := htargets t
  by_cases hstate : s.targets[t].state = .offered
  · rw [OfferSound, if_pos hstate] at hoffered
    obtain ⟨x, hx, hunder, hoffer⟩ := hoffered
    have hmem : x ∈ s.underOffer t := by rw [hunder]; exact List.mem_singleton.2 rfl
    obtain ⟨m, hm⟩ := Option.isSome_iff_exists.1 (mem_underOffer.1 hmem).2.2
    rw [hm, Option.map_some] at hoffer
    rw [State.currentOffer, if_pos hstate, hoffer] at h
    dsimp only at h
    rw [State.recordAt_of_mem hslots hx] at h
    dsimp only at h
    rw [hm] at h
    cases h
  · rw [offerSound_iff, if_neg hstate] at hoffered
    exact ⟨hstate, hoffered.1⟩

/-- A target out of every offer, with none of its records under offer. -/
theorem Rests.fits {P : Leave} {t : TargetNo} {old g : Target} {stack : List InService} (h : Rests P t old stack g)
    (hstack : stack.Pairwise fun upper lower => upper.level < lower.level) : TargetFits [] g where
  offer := by
    rw [if_neg h.state]
    exact ⟨rfl, h.offer⟩
  stack := hstack.sublist h.stack
  urgent := fun o ho => absurd ho List.not_mem_nil
  timers := h.timers

/-! ## The moves -/

/-- The pool `b` has the outlines of `s` but for one target, whose block becomes `g`. -/
theorem deliverySound_withTarget {s b : State} {t : TargetNo} {g : Target} (hs : DeliverySound s)
    (hslots : SlotsSound b) (hother : ∀ u, u ≠ t → outlines b u = outlines s u ∧ b.targets[u] = s.targets[u])
    (hg : TargetFits (outlines b t) g) : DeliverySound (b.withTarget t g) := by
  obtain ⟨-, hfits⟩ := (deliverySound_iff s).1 hs
  refine (deliverySound_iff _).2 ⟨hslots, fun u => ?_⟩
  have hsame : outlines (b.withTarget t g) u = outlines b u := rfl
  rw [hsame]
  by_cases hu : u = t
  · subst hu
    rw [State.withTarget_self]
    exact hg
  · obtain ⟨houtlines, htarget⟩ := hother u hu
    rw [State.withTarget_ne _ _ hu, houtlines, htarget]
    exact hfits u

/-- A change of the pool that keeps every outline. -/
theorem deliverySound_of_outlines {s b : State} (hs : DeliverySound s) (hslots : SlotsSound b)
    (houtlines : ∀ t, outlines b t = outlines s t) (htargets : b.targets = s.targets) : DeliverySound b := by
  obtain ⟨-, hfits⟩ := (deliverySound_iff s).1 hs
  refine (deliverySound_iff b).2 ⟨hslots, fun t => ?_⟩
  rw [houtlines, htargets]
  exact hfits t

theorem Adjusts.fits {P : Leave} {t : TargetNo} {old g : Target} {os : List Outline} (h : Adjusts P t old g)
    (hold : TargetFits os old) : TargetFits os g where
  offer := by
    simp only [h.offered, h.offer]
    exact hold.offer
  stack := hold.stack.sublist h.stack
  urgent o ho e he := hold.urgent o ho e (h.stack.subset he)
  timers := h.timers hold.timers

/-- A record that is eligible is more urgent than every entry of the stack (R79, R89). -/
theorem eligible_urgent {g : Target} (hstack : g.stack.Pairwise fun upper lower => upper.level < lower.level)
    {l : Level} (h : l.val < g.serviceBound) : ∀ e ∈ g.stack, l < e.level := by
  intro e he
  unfold Target.serviceBound at h
  cases hs : g.stack with
  | nil =>
    rw [hs] at he
    cases he
  | cons top rest =>
    rw [hs] at he hstack h
    have htop : l < top.level := by
      simp only at h
      exact Fin.lt_def.2 (by omega)
    rcases List.mem_cons.1 he with rfl | he
    · exact htop
    · exact htop.trans ((List.pairwise_cons.1 hstack).1 e he)

/-- The records around one of the pool have other slots. -/
theorem records_around {s : State} (hs : SlotsSound s) {before after : List Record} {r : Record}
    (h : s.records = before ++ r :: after) : ∀ x ∈ before ++ after, x.slot ≠ r.slot := by
  have hperm : (before ++ r :: after).Perm (r :: (before ++ after)) := List.perm_middle
  have hnodup : ((r :: (before ++ after)).map Record.slot).Nodup := by
    rw [← (hperm.map Record.slot).nodup_iff, ← h]
    exact hs
  rw [List.map_cons, List.nodup_cons] at hnodup
  exact fun x hx hslot => hnodup.1 (hslot ▸ List.mem_map_of_mem hx)

/-- A record of a target that had none under offer is put under offer. -/
theorem outlines_mark {s : State} (hs : SlotsSound s) {t : TargetNo} (hnone : outlines s t = []) {r : Record}
    (hr : r ∈ s.records) (ht : r.target = t) (mark : OfferMark) :
    outlines (s.changeRecord r.slot fun x => { x with offer := some mark }) t =
      [{ slot := r.slot, level := r.level, tag := some mark.tag }] := by
  obtain ⟨before, after, hrecords⟩ := List.append_of_mem hr
  have haround := records_around hs hrecords
  have hrest : ∀ rs : List Record, (∀ x ∈ rs, x ∈ before ++ after) →
      (rs.map fun x => if x.slot = r.slot then { x with offer := some mark } else x).filter
        (fun x => x.target == t && x.offer.isSome) = [] := by
    intro rs hrs
    rw [List.filter_eq_nil_iff]
    intro y hy hyt
    obtain ⟨x, hx, rfl⟩ := List.mem_map.1 hy
    rw [if_neg (haround x (hrs x hx))] at hyt
    have hmem : x ∈ s.underOffer t := by
      have hxs : x ∈ s.records := by
        rw [hrecords]
        exact (List.perm_middle.mem_iff).2 (List.mem_cons_of_mem r (hrs x hx))
      exact List.mem_filter.2 ⟨hxs, hyt⟩
    rw [List.map_eq_nil_iff.1 hnone] at hmem
    cases hmem
  have hone : (s.changeRecord r.slot fun x => { x with offer := some mark }).underOffer t =
      [{ r with offer := some mark }] := by
    unfold State.underOffer State.changeRecord State.setRecords
    dsimp only
    rw [hrecords, List.map_append, List.map_cons, List.filter_append, if_pos rfl, List.filter_cons,
      if_pos (by simp [ht]), hrest before fun x hx => List.mem_append_left _ hx,
      hrest after fun x hx => List.mem_append_right _ hx]
    rfl
  rw [outlines, hone]
  rfl

/-- The record returns from its offer to those that wait (R34). -/
def unmarked (s : State) (r : Record) : State :=
  s.changeRecord r.slot fun x => { x with offer := none }

/-- The record has returned from its offer, and its twin is merged into it and freed (R34). -/
def merged (s : State) (r w : Record) : State :=
  ((unmarked s r).freeRecord w.slot).changeRecord r.slot fun x => x.fold (w.count.getD 0) w.payload w.origin

/-- The record of the current offer is put under offer no longer. -/
theorem outlines_unmark {s : State} {t : TargetNo} {r : Record} (hunder : s.underOffer t = [r]) :
    outlines (unmarked s r) t = [] := by
  rw [outlines, List.map_eq_nil_iff, State.underOffer, List.filter_eq_nil_iff]
  intro y hy hyt
  obtain ⟨x, hx, rfl⟩ := List.mem_map.1 hy
  split at hyt
  · simp at hyt
  · next hslot =>
    have hmem : x ∈ s.underOffer t := List.mem_filter.2 ⟨hx, hyt⟩
    rw [hunder] at hmem
    exact hslot (List.mem_singleton.1 hmem ▸ rfl)

theorem outlines_freed {s : State} {t : TargetNo} {r : Record} (hunder : s.underOffer t = [r]) :
    outlines (s.freeRecord r.slot) t = [] := by
  rw [outlines, List.map_eq_nil_iff, State.underOffer, List.filter_eq_nil_iff]
  intro x hx hxt
  obtain ⟨hx, hslot⟩ := List.mem_filter.1 hx
  have hmem : x ∈ s.underOffer t := List.mem_filter.2 ⟨hx, hxt⟩
  rw [hunder] at hmem
  obtain rfl := List.mem_singleton.1 hmem
  simp at hslot

/-- The pool after a withdrawal, while its target is in OFFERED (R34). -/
theorem withdraw_records {s : State} {r : Record} (hoffered : s.targets[r.target].state = .offered) :
    (s.twin r = none ∧ (s.withdraw r).records = (unmarked s r).records) ∨
      ∃ w, s.twin r = some w ∧ (s.withdraw r).records = (merged s r w).records := by
  unfold State.withdraw
  dsimp only
  split
  · next h => exact .inl ⟨h, rfl⟩
  · next w h =>
    refine .inr ⟨w, h, ?_⟩
    rw [State.notify_inert, foldInto_records]
    · rfl
    all_goals
      rw [foldInto_targets]
      exact fun h => TargetState.noConfusion (hoffered.symm.trans h)

/-- While its target is in OFFERED a withdrawal leaves every target's block (R34). -/
theorem withdraw_target_ne (s : State) {r : Record} (hoffered : s.targets[r.target].state = .offered) (u : TargetNo) :
    (s.withdraw r).targets[u] = s.targets[u] := by
  unfold State.withdraw
  dsimp only
  split
  · rfl
  · rw [State.notify_inert, foldInto_targets]
    · rfl
    all_goals
      rw [foldInto_targets]
      exact fun h => TargetState.noConfusion (hoffered.symm.trans h)

/-- The twin of a record is another one of its key that waits (R34). -/
theorem twin_some {s : State} {r w : Record} (h : s.twin r = some w) :
    w ∈ s.records ∧ w.slot ≠ r.slot ∧ w.target = r.target ∧ w.index = r.index ∧ w.mode = r.mode ∧ w.offer = none ∧
      r.mode ≠ .queue := by
  unfold State.twin at h
  split at h
  · cases h
  · next hmode =>
    have hw := List.find?_some h
    simp only [Bool.and_eq_true, bne_iff_ne, beq_iff_eq, Option.isNone_iff_eq_none] at hw
    obtain ⟨⟨⟨⟨hslot, htarget⟩, hindex⟩, hm⟩, hoffer⟩ := hw
    exact ⟨List.mem_of_find?_eq_some h, hslot, htarget, hindex, hm, hoffer, hmode⟩

/-- A withdrawal puts the record of the current offer under offer no longer, and leaves the other targets. -/
theorem withdraw_outlines {s : State} (hs : SlotsSound s) {t : TargetNo} {r : Record} (hr : r ∈ s.records)
    (ht : r.target = t) (hunder : s.underOffer t = [r]) (hoffered : s.targets[t].state = .offered) :
    SlotsSound (s.withdraw r) ∧ outlines (s.withdraw r) t = [] ∧
      ∀ u, u ≠ t → outlines (s.withdraw r) u = outlines s u := by
  subst ht
  have hslots : SlotsSound (unmarked s r) := slotsSound_change r.slot (fun _ => rfl) hs
  have hnone := outlines_unmark hunder
  have hother : ∀ u, u ≠ r.target →
      outlines (unmarked s r) u = outlines s u :=
    fun u hu => outlines_change_ne hs hr hu.symm fun _ => rfl
  have hcongr : ∀ {b : State}, (s.withdraw r).records = b.records →
      (SlotsSound (s.withdraw r) ↔ SlotsSound b) ∧ ∀ u, outlines (s.withdraw r) u = outlines b u := by
    intro b hb
    unfold SlotsSound outlines State.underOffer
    rw [hb]
    exact ⟨Iff.rfl, fun _ => rfl⟩
  rcases withdraw_records hoffered with ⟨-, hrecords⟩ | ⟨w, hw, hrecords⟩
  · obtain ⟨hiff, houtlines⟩ := hcongr hrecords
    exact ⟨hiff.2 hslots, (houtlines _).trans hnone, fun u hu => (houtlines u).trans (hother u hu)⟩
  · obtain ⟨hwmem, hwslot, -, -, -, hwoffer, -⟩ := twin_some hw
    have hwmem' : w ∈ (unmarked s r).records :=
      List.mem_map.2 ⟨w, hwmem, if_neg hwslot⟩
    have hfreed : ∀ u, outlines ((unmarked s r).freeRecord w.slot) u =
        outlines (unmarked s r) u :=
      fun u => outlines_free_ne hslots hwmem' (.inr hwoffer)
    obtain ⟨hiff, houtlines⟩ := hcongr hrecords
    refine ⟨hiff.2 (slotsSound_change _ (fun x => (fold_fixed x _ _ _).1) (slotsSound_filter _ hslots)), ?_, fun u hu => ?_⟩
    · rw [houtlines, merged, outlines_fold, hfreed, hnone]
    · rw [houtlines, merged, outlines_fold, hfreed, hother u hu]

/-- CANCEL voids what it does not free, and leaves every outline (R36). -/
theorem cancel_sound (s : State) (t : TargetNo) (i : Index) (hs : SlotsSound s) :
    SlotsSound (s.setRecords (cancelRecords t i s.records)) ∧
      ∀ u, outlines (s.setRecords (cancelRecords t i s.records)) u = outlines s u := by
  have hslots := slotsSound_filter (fun r => !(r.ofPair t i && r.offer.isNone)) hs
  refine ⟨slotsSound_map (fun r => ?_) hslots, fun u => ?_⟩
  · split <;> rfl
  · have hvoided := outlines_map (s := s.setRecords (s.records.filter fun r => !(r.ofPair t i && r.offer.isNone)))
      (t := u) (f := fun r => if r.ofPair t i then { r with offer := r.offer.map fun m => { m with void := true } } else r)
      fun r _ => by
        split
        · exact ⟨Iff.rfl, fun _ => by simp [outline, Function.comp_def]⟩
        · exact ⟨Iff.rfl, fun _ => rfl⟩
    refine Eq.trans hvoided (outlines_filter fun r _ _ hsome => ?_)
    cases hr : r.offer with
    | none =>
      rw [hr] at hsome
      cases hsome
    | some m => simp

/-- Every move of the Delivery Controller and the Pending Store keeps them in agreement. -/
theorem Delivers.deliverySound {P : Leave} {s b : State} (h : Delivers P s b) : DeliverySound s → DeliverySound b := by
  induction h with
  | refl => exact id
  | trans _ _ hab hbc => exact hbc ∘ hab
  | paid _ _ _ ih => exact ih
  | hand s l n q _ _ =>
    intro hs
    unfold DeliverySound SlotsSound OfferSound StackSound State.underOffer
    rw [State.handOver_records, State.handOver_targets]
    exact hs
  | report s r marked =>
    intro hs
    unfold DeliverySound SlotsSound OfferSound StackSound State.underOffer
    rw [State.report_records, State.report_targets]
    exact hs
  | adjust s t g h =>
    intro hs
    obtain ⟨hslots, hfits⟩ := (deliverySound_iff s).1 hs
    exact deliverySound_withTarget hs hslots (fun _ _ => ⟨rfl, rfl⟩) (h.fits (hfits t))
  | rest s t g hidle h =>
    intro hs
    obtain ⟨hslots, hfits⟩ := (deliverySound_iff s).1 hs
    obtain ⟨-, hnone⟩ := outlines_of_idle hs hidle
    exact deliverySound_withTarget hs hslots (fun _ _ => ⟨rfl, rfl⟩) (hnone ▸ h.fits (hfits t).stack)
  | offer s t r hready hhead =>
    intro hs
    obtain ⟨hslots, hfits⟩ := (deliverySound_iff s).1 hs
    obtain ⟨hr, ht, hlevel⟩ := State.eligibleHead_some hhead
    have hidle : s.currentOffer t = none := State.currentOffer_none (by rw [hready]; exact TargetState.noConfusion)
    obtain ⟨-, hnone⟩ := outlines_of_idle hs hidle
    refine deliverySound_withTarget hs (slotsSound_change _ (fun _ => rfl) hslots) (fun u hu => ⟨?_, rfl⟩) ?_
    · exact outlines_change_ne hslots hr (ht ▸ hu.symm) fun _ => rfl
    · rw [outlines_mark hslots hnone hr ht]
      obtain ⟨-, hstack, -, htimers⟩ := hfits t
      exact
        { offer := by rw [if_pos rfl]; exact ⟨_, _, _, rfl, rfl⟩
          stack := hstack
          urgent := fun o ho => List.mem_singleton.1 ho ▸ eligible_urgent hstack hlevel
          timers := by simp_all [TimersSound] }
  | close s t o r m g hoffer h _ =>
    intro hs
    obtain ⟨hslots, hfits⟩ := (deliverySound_iff s).1 hs
    obtain ⟨hr, ht, hunder, hurgent⟩ := currentOffer_sound hs hoffer
    refine deliverySound_withTarget hs (slotsSound_filter _ hslots) (fun u hu => ⟨?_, rfl⟩) ?_
    · exact outlines_free_ne hslots hr (.inl (ht ▸ hu.symm))
    · rw [outlines_freed hunder]
      exact h.fits (List.pairwise_cons.2 ⟨hurgent, (hfits t).stack⟩)
  | withdraw s t o r m g hoffer h =>
    intro hs
    obtain ⟨hslots, hfits⟩ := (deliverySound_iff s).1 hs
    obtain ⟨hr, ht, hunder, -⟩ := currentOffer_sound hs hoffer
    obtain ⟨hoffered, -⟩ := State.currentOffer_some hoffer
    obtain ⟨hslots', hnone, hother⟩ := withdraw_outlines hslots hr ht hunder hoffered
    refine deliverySound_withTarget hs hslots' (fun u hu => ⟨hother u hu, ?_⟩) ?_
    · exact withdraw_target_ne s (ht ▸ hoffered) u
    · rw [hnone]
      exact h.fits (hfits t).stack
  | add s x h =>
    intro hs
    obtain ⟨hslots, -⟩ := (deliverySound_iff s).1 hs
    exact deliverySound_of_outlines hs (slotsSound_append h.slot hslots) (fun _ => outlines_append h.offer) rfl
  | fold s n added payload o _ =>
    intro hs
    obtain ⟨hslots, -⟩ := (deliverySound_iff s).1 hs
    exact deliverySound_of_outlines hs (slotsSound_change n (fun x => (fold_fixed x _ _ _).1) hslots)
      (fun _ => outlines_fold ..) rfl
  | cancel s t i =>
    intro hs
    obtain ⟨hslots, -⟩ := (deliverySound_iff s).1 hs
    obtain ⟨hslots', houtlines⟩ := cancel_sound s t i hslots
    exact deliverySound_of_outlines hs hslots' houtlines rfl

end Sys2Proof.Proofs
end

section
/-! Every step keeps pool, offers and stacks in agreement (O16), and one waiting record of a key (O17). -/

open Sys2Proof Sys2Proof.Machine

namespace Sys2Proof.Proofs

/-! ## Targets of links that are not UP (R95) -/

/-- The target of a link that is not UP is OFFLINE. -/
def Dark (s : State) : Prop :=
  ∀ t : TargetNo, s.links[targetLink t].state ≠ .up → s.targets[t].state = .offline

/-- No move of the Delivery Controller takes a target out of OFFLINE. -/
theorem Delivers.stays_offline {P : Leave} {s b : State} (h : Delivers P s b) {t : TargetNo} :
    s.targets[t].state = .offline → b.targets[t].state = .offline := by
  have hwith : ∀ (x : State) (u : TargetNo) (g : Target), (x.targets[u].state = .offline → g.state = .offline) →
      x.targets[t].state = .offline → (x.withTarget u g).targets[t].state = .offline := by
    intro x u g hg hx
    exact withTarget_forall (C := fun v y => v = t → y.state = .offline) (fun htu hut => hg (hut ▸ htu ▸ hx))
      (fun _ _ => hx) rfl
  induction h with
  | refl | add | fold | cancel => exact id
  | trans _ _ hab hbc => exact hbc ∘ hab
  | paid _ _ _ ih => exact ih
  | hand s l n q => rw [State.handOver_targets]; exact id
  | report s r marked => rw [State.report_targets]; exact id
  | adjust s u g h => exact hwith s u g h.offline.2
  | rest s u g _ h => exact hwith s u g h.offline
  | offer s u r hready _ =>
    exact hwith _ u _ fun hoffline => absurd (hready.symm.trans hoffline) TargetState.noConfusion
  | close s u o r m g _ h _ => exact hwith (s.freeRecord r.slot) u g h.offline
  | withdraw s u o r m g hoffer h =>
    intro hs
    have hoffered := (State.currentOffer_some hoffer).1
    refine hwith (s.withdraw r) u g (fun hu => h.offline ?_) (((withdraw_target_fixed s r t).2).2 hs)
    exact ((withdraw_target_fixed s r u).2).1 hu

theorem Delivers.dark {P : Leave} {s b : State} (h : Delivers P s b) (hs : Dark s) : Dark b := by
  intro t hup
  obtain ⟨extra, hlink, -⟩ := h.moves.link_grows (targetLink t)
  rw [hlink] at hup
  exact h.stays_offline (hs t hup)

/-- Pool, offers and stacks agree, and the targets of links that are not UP are OFFLINE. -/
def DeliveryFits (s : State) : Prop :=
  DeliverySound s ∧ Dark s

theorem LinkMoves.dark_withLink {P : Leave} {s : State} {l : LinkNo} {k : Link} (hk : LinkMoves P s l k)
    (hs : Dark s) : Dark (s.withLink l k) := by
  intro t hup
  by_cases hl : targetLink t = l
  · subst hl
    rw [State.withLink_self] at hup
    by_cases hwas : s.links[targetLink t].state = .up
    · exact hk.dark hwas hup t rfl
    · exact hs t hwas
  · rw [State.withLink_ne _ _ hl] at hup
    exact hs t hup

/-- A target that starts anew was OFFLINE, so none of its records was under offer (R124). -/
theorem fresh_fits {s : State} {t : TargetNo} (hs : DeliverySound s) (hoffline : s.targets[t].state = .offline) :
    DeliverySound (s.withTarget t Target.fresh) := by
  obtain ⟨hslots, hfits⟩ := (deliverySound_iff s).1 hs
  have hidle : s.currentOffer t = none := State.currentOffer_none (by rw [hoffline]; exact TargetState.noConfusion)
  obtain ⟨-, hnone⟩ := outlines_of_idle hs hidle
  refine deliverySound_withTarget hs hslots (fun _ _ => ⟨rfl, rfl⟩) ?_
  rw [hnone]
  exact
    { offer := ⟨rfl, rfl⟩
      stack := List.Pairwise.nil
      urgent := fun o ho => absurd ho List.not_mem_nil
      timers := by simp [TimersSound, Target.fresh] }

theorem Proceeds.deliveryFits {P : Leave} {s b : State} (h : Proceeds P s b) : DeliveryFits s → DeliveryFits b := by
  induction h with
  | trans _ _ hab hbc => exact hbc ∘ hab
  | settled _ _ _ ih => exact ih
  | delivers h => exact And.imp h.deliverySound h.dark
  | link s l k hk => exact And.imp id hk.dark_withLink
  | start s t k hk _ _ hup hoffline =>
    rintro ⟨hsound, hdark⟩
    have hwas : s.targets[t].state = .offline := by
      by_cases h : s.links[targetLink t].state = .up
      · exact hoffline h
      · exact hdark t h
    refine ⟨fresh_fits (s := s.withLink (targetLink t) k) hsound hwas, fun u hnot => ?_⟩
    have hut : u ≠ t := by
      rintro rfl
      exact hnot (by rw [show ((s.withLink (targetLink u) k).withTarget u Target.fresh).links[targetLink u] = k from
        State.withLink_self ..]; exact hup)
    rw [State.withTarget_ne _ _ hut]
    exact hk.dark_withLink hdark u hnot
  | queue | draws => exact id

theorem DeliveryFits.of_eq {s b : State} (hs : DeliveryFits s) (hrecords : b.records = s.records)
    (htargets : b.targets = s.targets) (hlinks : b.links = s.links) : DeliveryFits b := by
  unfold DeliveryFits DeliverySound SlotsSound OfferSound StackSound State.underOffer Dark
  rw [hrecords, htargets, hlinks]
  exact hs

theorem emptied_sound {s : State} (hrecords : s.records = []) (htargets : ∀ t : TargetNo,
    s.targets[t].state ≠ .offered ∧ s.targets[t].offer = none ∧ s.targets[t].stack = [] ∧ TimersSound s.targets[t]) :
    DeliverySound s := by
  refine (deliverySound_iff s).2 ⟨?_, fun t => ?_⟩
  · rw [SlotsSound, hrecords]
    exact List.nodup_nil
  · obtain ⟨hstate, hoffer, hstack, htimers⟩ := htargets t
    have hnone : outlines s t = [] := by simp [outlines, State.underOffer, hrecords]
    rw [hnone]
    exact
      { offer := by rw [if_neg hstate]; exact ⟨rfl, hoffer⟩
        stack := hstack ▸ List.Pairwise.nil
        urgent := fun o ho => absurd ho List.not_mem_nil
        timers := htimers }

theorem restart_fits (s : State) : DeliveryFits (restarted s) := by
  refine ⟨emptied_sound rfl fun t => ?_, fun t hup => ?_⟩
  · cases h : s.isUp (targetLink t) <;> simp [restarted, Target.restart, Target.enter, TimersSound, h]
  · have hnot : s.isUp (targetLink t) = false := by simpa [State.isUp, restarted] using hup
    simp [restarted, Target.restart, Target.enter, hnot]

theorem deliveryFits_kept : Kept .any DeliveryFits where
  proceeds := Proceeds.deliveryFits
  moving ha h := by
    obtain ⟨hrecords, htargets, -, -, -, hlinks, -⟩ := moving_eq h
    exact ha.of_eq hrecords htargets hlinks
  raise a e w ha := ha.of_eq (State.raiseEvent_records ..) (State.raiseEvent_targets ..) (State.raiseEvent_links ..)
  present _ _ _ _ ha := ha
  restart a _ := restart_fits a

theorem fullReset_fits {s t : State} (h : execFullReset s = .next t) : DeliveryFits t := by
  cases h
  refine ⟨emptied_sound rfl fun t => ?_, fun t _ => ?_⟩ <;> simp [Target.reset, TimersSound]

theorem imageLoad_fits {s t : State} (hload : s.loading = true) (h : execImageLoad s = .next t) (hlinks : LinksSound s)
    (hs : DeliveryFits s) : DeliveryFits t := by
  obtain ⟨hsound, hdark⟩ := hs
  have hrecords := execImageLoad_records hload h
  have htargets := execImageLoad_targets hload h
  refine ⟨?_, fun g _ => ?_⟩
  · unfold DeliverySound SlotsSound OfferSound StackSound State.underOffer
    rw [hrecords, htargets]
    exact hsound
  · rw [htargets]
    refine hdark g ?_
    rw [(hlinks.1 _).2.2 hload]
    exact LinkState.noConfusion

theorem deliveryFits_record {s : State} (l : LinkNo) (r : LinkRecord) (hs : DeliveryFits s) :
    DeliveryFits (s.withLink l { s.links[l] with record := r }) := by
  refine And.imp id (fun hdark t hup => hdark t ?_) hs
  by_cases hl : targetLink t = l
  · subst hl
    rwa [State.withLink_self] at hup
  · rwa [State.withLink_ne _ _ hl] at hup

theorem linksSound_dark {s : State} (h : LinksSound s) : Dark s := by
  obtain ⟨-, htargets, -⟩ := h
  exact fun t hup => (htargets t).2 (by simpa [State.isUp] using hup)

theorem exec_deliveryFits {c : Instr} {s t : State} (hlinks : LinksSound s) (hs : DeliveryFits s)
    (h : exec c s = .next t) : DeliveryFits t :=
  deliveryFits_kept.of_effect (exec_any h) hs
    { reset := fun _ => fullReset_fits
      load := fun _ hload hb => imageLoad_fits hload hb hlinks hs
      event := fun n p _ _ _ ht => ht ▸ deliveryFits_kept.of_endEvent n p trivial
      admitted := fun _ _ _ _ _ _ _ => hs
      record := fun l r _ _ => deliveryFits_record l r
      clear := fun _ _ _ _ => id }

/-- Settles O16: each move changes pool, target and stack together. -/
theorem deliveryStaysSound : Obligations.DeliveryStaysSound := by
  intro s t hlinks hsound
  exact step_of_exec (J := fun s => LinksSound s ∧ DeliverySound s) (I := DeliverySound) (fun _ _ => id)
    (fun _ => And.right)
    (fun _ _ _ hs h => (exec_deliveryFits hs.1 ⟨hs.2, linksSound_dark hs.1⟩ h).1) ⟨hlinks, hsound⟩

/-! ## Keys (R27, R30) -/

/-- At most one MERGE or COUNT record of each key waits, and each pair holds at most 8 QUEUE records. -/
def KeysFit (s : State) : Prop :=
  (∀ t i m, m ≠ .queue → (s.waitingRecords t i m).length ≤ 1) ∧ ∀ t i, s.queueCount t i ≤ 8

theorem length_filter_le_of_mem {p : Record → Bool} {n : Nat} {rs : List Record}
    (h : ∀ r ∈ rs, p r = true → (rs.filter p).length ≤ n) : (rs.filter p).length ≤ n := by
  cases hf : rs.filter p with
  | nil => exact Nat.zero_le n
  | cons r rest =>
    have hmem : r ∈ rs.filter p := by
      rw [hf]
      exact List.mem_cons_self
    obtain ⟨hr, hp⟩ := List.mem_filter.1 hmem
    rw [← hf]
    exact h r hr hp

theorem keysSound_iff (s : State) : KeysSound s ↔ KeysFit s := by
  constructor
  · intro h
    refine ⟨fun t i _ hm => length_filter_le_of_mem fun r hr hp => ?_, fun t i =>
      length_filter_le_of_mem fun r hr hp => ?_⟩
    · simp only [Bool.and_eq_true, beq_iff_eq] at hp
      obtain ⟨⟨⟨rfl, rfl⟩, rfl⟩, -⟩ := hp
      exact (h r hr).1 hm
    · simp only [Bool.and_eq_true, beq_iff_eq] at hp
      obtain ⟨⟨rfl, rfl⟩, -⟩ := hp
      exact (h r hr).2
  · rintro ⟨hwaiting, hqueue⟩ r _
    exact ⟨hwaiting _ _ _, hqueue _ _⟩

theorem KeysFit.of_records {s b : State} (h : b.records = s.records) (hs : KeysFit s) : KeysFit b := by
  unfold KeysFit State.waitingRecords State.queueCount
  rw [h]
  exact hs

/-- A change of records that keeps their keys and makes none wait that did not. -/
theorem KeysFit.map {s : State} {f : Record → Record} (hs : KeysFit s)
    (hf : ∀ r, (f r).target = r.target ∧ (f r).index = r.index ∧ (f r).mode = r.mode ∧
      ((f r).offer = none → r.offer = none)) : KeysFit (s.setRecords (s.records.map f)) := by
  obtain ⟨hwaiting, hqueue⟩ := hs
  refine ⟨fun t i m hm => ?_, fun t i => ?_⟩
  · refine le_trans ?_ (hwaiting t i m hm)
    unfold State.waitingRecords State.setRecords
    dsimp only
    rw [List.filter_map, List.length_map]
    refine (List.monotone_filter_right _ fun r hr => ?_).length_le
    obtain ⟨ht, hi, hmode, hoffer⟩ := hf r
    simp only [Function.comp_apply, ht, hi, hmode, Bool.and_eq_true, beq_iff_eq, Option.isNone_iff_eq_none] at hr ⊢
    exact hr.imp_right hoffer
  · refine (length_filter_map (fun r => ?_) _).trans_le (hqueue t i)
    obtain ⟨ht, hi, hmode, -⟩ := hf r
    rw [ht, hi, hmode]

theorem KeysFit.filter {s : State} (p : Record → Bool) (hs : KeysFit s) :
    KeysFit (s.setRecords (s.records.filter p)) := by
  obtain ⟨hwaiting, hqueue⟩ := hs
  exact ⟨fun t i m hm => ((List.filter_sublist.filter _).length_le).trans (hwaiting t i m hm),
    fun t i => ((List.filter_sublist.filter _).length_le).trans (hqueue t i)⟩

theorem KeysFit.change {s : State} (n : SlotNo) {f : Record → Record} (hs : KeysFit s)
    (hf : ∀ r, (f r).target = r.target ∧ (f r).index = r.index ∧ (f r).mode = r.mode ∧
      ((f r).offer = none → r.offer = none)) : KeysFit (s.changeRecord n f) := by
  refine hs.map fun r => ?_
  split
  · exact hf r
  · exact ⟨rfl, rfl, rfl, id⟩

theorem KeysFit.fold {s : State} (n : SlotNo) (added : Nat) (p : List Word) (o : Origin) (hs : KeysFit s) :
    KeysFit (s.changeRecord n fun x => x.fold added p o) := by
  refine hs.change n fun r => ?_
  obtain ⟨-, ht, hi, -, hm, hoffer⟩ := fold_fixed r added p o
  exact ⟨ht, hi, hm, hoffer.symm.trans⟩

theorem length_filter_append_le {p : Record → Bool} {n : Nat} {rs : List Record} {x : Record}
    (hrs : (rs.filter p).length ≤ n) (hx : p x = true → (rs.filter p).length < n) :
    ((rs ++ [x]).filter p).length ≤ n := by
  rw [List.filter_append, List.length_append]
  cases hp : p x with
  | false => simpa [hp] using hrs
  | true => simpa [hp] using hx hp

/-- A record joins the pool with room for its key (R27, R30). -/
theorem KeysFit.append {P : Leave} {s : State} {x : Record} (hx : Joins P s x) (hs : KeysFit s) :
    KeysFit (s.setRecords (s.records ++ [x])) := by
  obtain ⟨hwaiting, hqueue⟩ := hs
  refine ⟨fun t i m hm => length_filter_append_le (hwaiting t i m hm) fun hp => ?_,
    fun t i => length_filter_append_le (hqueue t i) fun hp => ?_⟩
  · simp only [Bool.and_eq_true, beq_iff_eq] at hp
    obtain ⟨⟨⟨rfl, rfl⟩, rfl⟩, -⟩ := hp
    have hnone := hx.waiting hm
    unfold State.waitingRecords at hnone
    rw [hnone]
    exact Nat.one_pos
  · simp only [Bool.and_eq_true, beq_iff_eq] at hp
    obtain ⟨⟨rfl, rfl⟩, hmode⟩ := hp
    exact hx.queue hmode

/-- Records of one slot number at most one. -/
theorem length_filter_le_one {s : State} (hs : SlotsSound s) {p : Record → Bool} {n : SlotNo}
    (h : ∀ r ∈ s.records, p r = true → r.slot = n) : (s.records.filter p).length ≤ 1 := by
  have hnodup : ((s.records.filter p).map Record.slot).Nodup := hs.sublist (List.filter_sublist.map _)
  have heq : (s.records.filter p).map Record.slot = List.replicate (s.records.filter p).length n := by
    refine List.eq_replicate_iff.2 ⟨List.length_map _, fun m hm => ?_⟩
    obtain ⟨r, hr, rfl⟩ := List.mem_map.1 hm
    obtain ⟨hr, hp⟩ := List.mem_filter.1 hr
    exact h r hr hp
  rw [heq, List.nodup_replicate] at hnodup
  exact hnodup

/-- The record is of the key of `r` and waits. -/
def WaitsWith (r x : Record) : Prop :=
  x.target = r.target ∧ x.index = r.index ∧ x.mode = r.mode ∧ x.offer = none

/-- A record has returned to those that wait, and is the only one of its key (R27, R34). -/
theorem KeysFit.returned {s b : State} {r : Record} (hs : KeysFit s) (hr : r ∈ s.records) (hslots : SlotsSound s)
    (hb : SlotsSound b) (hsub : b.records.Sublist (unmarked s r).records)
    (halone : r.mode ≠ .queue → ∀ x ∈ b.records, WaitsWith r x → x.slot = r.slot) : KeysFit b := by
  obtain ⟨hwaiting, hqueue⟩ := hs
  refine ⟨fun t i m hm => ?_, fun t i => ?_⟩
  · by_cases hkey : r.target = t ∧ r.index = i ∧ r.mode = m
    · obtain ⟨rfl, rfl, rfl⟩ := hkey
      refine length_filter_le_one hb fun x hx hp => halone hm x hx ?_
      simp only [Bool.and_eq_true, beq_iff_eq, Option.isNone_iff_eq_none] at hp
      obtain ⟨⟨⟨ht, hi⟩, hmode⟩, hoffer⟩ := hp
      exact ⟨ht, hi, hmode, hoffer⟩
    · refine ((hsub.filter _).length_le.trans ?_).trans (hwaiting t i m hm)
      unfold unmarked State.changeRecord State.setRecords State.waitingRecords
      dsimp only
      rw [List.filter_map, List.length_map, ← List.countP_eq_length_filter, ← List.countP_eq_length_filter]
      refine List.countP_mono_left fun x hx hp => ?_
      simp only [Function.comp_apply] at hp
      split at hp
      · next hslot =>
        obtain rfl := record_unique hslots hx hr hslot
        simp only [Bool.and_eq_true, beq_iff_eq] at hp
        exact absurd ⟨hp.1.1.1, hp.1.1.2, hp.1.2⟩ hkey
      · exact hp
  · refine ((hsub.filter _).length_le.trans_eq (length_filter_map (fun x => ?_) _)).trans (hqueue t i)
    split <;> rfl

/-- Without a twin no other record of the key waits. -/
theorem twin_none {s : State} {r : Record} (h : s.twin r = none) (hmode : r.mode ≠ .queue) :
    ∀ x ∈ s.records, WaitsWith r x → x.slot = r.slot := by
  rintro x hx ⟨ht, hi, hm, hoffer⟩
  rw [State.twin, if_neg hmode, List.find?_eq_none] at h
  have hnot := h x hx
  simpa [ht, hi, hm, hoffer] using hnot

theorem unmarked_waits {s : State} {r x : Record} (hx : x ∈ (unmarked s r).records) (hslot : x.slot ≠ r.slot) :
    x ∈ s.records := by
  obtain ⟨y, hy, rfl⟩ := List.mem_map.1 hx
  split
  · next h => exact absurd (by rw [if_pos h]; exact h) hslot
  · exact hy

theorem eq_of_length_le_one {rs : List Record} (h : rs.length ≤ 1) {x y : Record} (hx : x ∈ rs) (hy : y ∈ rs) :
    x = y := by
  match rs, h with
  | [_], _ => rw [List.mem_singleton.1 hx, List.mem_singleton.1 hy]

/-- A withdrawal leaves one record of the key (R34). -/
theorem KeysFit.withdraw {s : State} {r : Record} (hs : KeysFit s) (hr : r ∈ s.records) (hslots : SlotsSound s)
    (hoffered : s.targets[r.target].state = .offered) : KeysFit (s.withdraw r) := by
  have hunmarked : SlotsSound (unmarked s r) := slotsSound_change r.slot (fun _ => rfl) hslots
  rcases withdraw_records hoffered with ⟨hnone, hrecords⟩ | ⟨w, hw, hrecords⟩
  · refine KeysFit.of_records hrecords (hs.returned hr hslots hunmarked (.refl _) fun hmode x hx hwaits => ?_)
    by_contra hslot
    exact hslot (twin_none hnone hmode x (unmarked_waits hx hslot) hwaits)
  · refine KeysFit.of_records hrecords (KeysFit.fold r.slot _ _ _ (hs.returned hr hslots
      (slotsSound_filter (fun x => x.slot != w.slot) hunmarked) List.filter_sublist fun hmode x hx hwaits => ?_))
    obtain ⟨hwmem, -, ht, hi, hm, hwoffer, -⟩ := twin_some hw
    obtain ⟨hx, hne⟩ := List.mem_filter.1 hx
    by_contra hslot
    have hxs := unmarked_waits hx hslot
    obtain ⟨hxt, hxi, hxm, hxoffer⟩ := hwaits
    have hone := hs.1 r.target r.index r.mode hmode
    have hxin : x ∈ s.waitingRecords r.target r.index r.mode := by simp [State.waitingRecords, *]
    have hwin : w ∈ s.waitingRecords r.target r.index r.mode := by simp [State.waitingRecords, *]
    have hxw : x = w := eq_of_length_le_one hone hxin hwin
    simp [hxw] at hne

/-- Every move keeps one waiting record of a key. -/
theorem Delivers.keysFit {P : Leave} {s b : State} (h : Delivers P s b) : DeliverySound s → KeysFit s → KeysFit b := by
  induction h with
  | refl => exact fun _ => id
  | trans hab _ ihab ihbc => exact fun hs => ihbc (hab.deliverySound hs) ∘ ihab hs
  | paid _ _ _ ih => exact ih
  | hand s l n q _ _ => exact fun _ => .of_records (State.handOver_records ..)
  | report s r marked => exact fun _ => .of_records (State.report_records ..)
  | adjust | rest => exact fun _ => id
  | offer s t r _ _ => exact fun _ hs => hs.change r.slot fun _ => ⟨rfl, rfl, rfl, fun h => by cases h⟩
  | close s t o r m g _ _ _ => exact fun _ hs => hs.filter _
  | withdraw s t o r m g hoffer _ =>
    intro hsound hs
    obtain ⟨hr, ht, -⟩ := currentOffer_sound hsound hoffer
    exact hs.withdraw hr hsound.1 (ht ▸ (State.currentOffer_some hoffer).1)
  | add s x h => exact fun _ hs => hs.append h
  | fold s n added payload o _ => exact fun _ hs => hs.fold n added payload o
  | cancel s t i =>
    intro _ hs
    refine KeysFit.map (hs.filter _) fun r => ?_
    split
    · exact ⟨rfl, rfl, rfl, fun h => by simpa using h⟩
    · exact ⟨rfl, rfl, rfl, id⟩

theorem Proceeds.keysFit {P : Leave} {s b : State} (h : Proceeds P s b) :
    DeliveryFits s → KeysFit s → KeysFit b := by
  induction h with
  | trans hab _ ihab ihbc => exact fun hs => ihbc (hab.deliveryFits hs) ∘ ihab hs
  | settled _ _ _ ih => exact ih
  | delivers h => exact fun hs => h.keysFit hs.1
  | link | start | queue | draws => exact fun _ => id

/-- `DeliveryFits` together with the limits of keys. -/
def KeysKept (s : State) : Prop :=
  DeliveryFits s ∧ KeysFit s

theorem keysFit_of_empty {s : State} (h : s.records = []) : KeysFit s := by
  simp [KeysFit, State.waitingRecords, State.queueCount, h]

theorem keysKept_kept : Kept .any KeysKept where
  proceeds h ha := ⟨h.deliveryFits ha.1, h.keysFit ha.1 ha.2⟩
  moving ha h := ⟨deliveryFits_kept.moving ha.1 h, .of_records (moving_eq h).1 ha.2⟩
  raise a e w ha := ⟨deliveryFits_kept.raise a e w ha.1, .of_records (State.raiseEvent_records ..) ha.2⟩
  present _ _ _ _ ha := ha
  restart a _ := ⟨restart_fits a, keysFit_of_empty rfl⟩

theorem exec_keysKept {c : Instr} {s t : State} (hlinks : LinksSound s) (hs : KeysKept s)
    (h : exec c s = .next t) : KeysKept t :=
  keysKept_kept.of_effect (exec_any h) hs
    { reset := fun _ hb => ⟨fullReset_fits hb, keysFit_of_empty (by cases hb; rfl)⟩
      load := fun _ hload hb => ⟨imageLoad_fits hload hb hlinks hs.1, .of_records (execImageLoad_records hload hb) hs.2⟩
      event := fun n p _ _ _ ht => ht ▸ keysKept_kept.of_endEvent n p trivial
      admitted := fun _ _ _ _ _ _ _ => hs
      record := fun l r _ _ ha => ⟨deliveryFits_record l r ha.1, ha.2⟩
      clear := fun _ _ _ _ => id }

/-- Settles O17: a record joins the pool with room for its key, and a record that returns from its offer takes its twin
with it. -/
theorem keysStayUnique : Obligations.KeysStayUnique := by
  intro s t hlinks hsound hkeys
  refine step_of_exec (J := fun s => LinksSound s ∧ KeysKept s) (I := KeysSound) (fun _ _ => id)
    (fun s hs => (keysSound_iff s).2 hs.2.2) (fun c s t hs h => ?_)
    ⟨hlinks, ⟨hsound, linksSound_dark hlinks⟩, (keysSound_iff s).1 hkeys⟩
  exact (keysSound_iff t).2 (exec_keysKept hs.1 hs.2 h).2

end Sys2Proof.Proofs
end

section
/-! The target frames and the timers of the Delivery Controller (chapters 5 and 6): each command as one equation, and
the answers to an offer, DONE, READY, LEVEL, SLEEP and the timers. -/

open Sys2Proof Sys2Proof.Machine

namespace Sys2Proof.Proofs

/-! ## The commands -/

theorem exec_doneFrame_taken {s : State} {t : TargetNo} {tag : Byte} (hframe : s.targetFrame t = some (.done tag)) :
    exec (.doneFrame t) s = .next ((s.takeDone t tag).finishTargetFrame t) := by
  change execDoneFrame t s = _
  rw [execDoneFrame, hframe]

theorem exec_readyFrame_taken {s : State} {t : TargetNo} (hframe : s.targetFrame t = some .ready) :
    exec (.readyFrame t) s = .next ((s.takeReady t).finishTargetFrame t) := by
  change execReadyFrame t s = _
  rw [execReadyFrame, hframe]

theorem exec_levelFrame_taken {s : State} {t : TargetNo} {value : Byte}
    (hframe : s.targetFrame t = some (.level value)) :
    exec (.levelFrame t) s = .next ((s.takeLevel t value).finishTargetFrame t) := by
  change execLevelFrame t s = _
  rw [execLevelFrame, hframe]

theorem exec_sleepFrame_taken {s : State} {t : TargetNo} {value : Byte}
    (hframe : s.targetFrame t = some (.sleep value)) :
    exec (.sleepFrame t) s = .next ((s.takeSleep t value).finishTargetFrame t) := by
  change execSleepFrame t s = _
  rw [execSleepFrame, hframe]

theorem exec_claimTimerExpiry_void {s : State} {t : TargetNo} (htimer : s.targets[t].claimTimer.isSome = true)
    {o : Offer} {r : Record} {m : OfferMark} (hoffer : s.currentOffer t = some (o, r, m)) (hvoid : m.void = true) :
    exec (.claimTimerExpiry t) s = .next ((s.freeRecord r.slot).enterReady t) := by
  change execClaimTimerExpiry t s = _
  simp only [execClaimTimerExpiry, if_pos htimer, hoffer, if_pos hvoid]

theorem exec_claimTimerExpiry_resent {s : State} {t : TargetNo} (htimer : s.targets[t].claimTimer.isSome = true)
    {o : Offer} {r : Record} {m : OfferMark} (hoffer : s.currentOffer t = some (o, r, m)) (hvoid : m.void = false)
    {retries : Fin 8} (hretry : s.targets[t].retry = some retries) :
    exec (.claimTimerExpiry t) s = .next (s.resend t retries (.offer (r.offerFrame o.tag))) := by
  change execClaimTimerExpiry t s = _
  simp only [execClaimTimerExpiry, if_pos htimer, hoffer, hvoid, if_neg Bool.false_ne_true, hretry]

theorem exec_claimTimerExpiry_lost {s : State} {t : TargetNo} (htimer : s.targets[t].claimTimer.isSome = true)
    {o : Offer} {r : Record} {m : OfferMark} (hoffer : s.currentOffer t = some (o, r, m)) (hvoid : m.void = false)
    (hretry : s.targets[t].retry = none) :
    exec (.claimTimerExpiry t) s =
      .next (((s.withdraw r).modTarget t (Target.enter .lost)).report
        (targetLost t (some r.index) (o.tag.setWidth 16)) false) := by
  change execClaimTimerExpiry t s = _
  simp only [execClaimTimerExpiry, if_pos htimer, hoffer, hvoid, if_neg Bool.false_ne_true, hretry]

theorem exec_claimTimerExpiryWaking_resent {s : State} {t : TargetNo} (hstate : s.targets[t].state = .waking)
    (htimer : s.targets[t].claimTimer.isSome = true) {level : Level} (hwake : s.targets[t].wakeSent = some level)
    {retries : Fin 8} (hretry : s.targets[t].retry = some retries) :
    exec (.claimTimerExpiryWaking t) s = .next (s.resend t retries (.wake level)) := by
  change execClaimTimerExpiryWaking t s = _
  simp only [execClaimTimerExpiryWaking, if_pos (And.intro hstate htimer), hretry, hwake]

theorem exec_claimTimerExpiryWaking_lost {s : State} {t : TargetNo} (hstate : s.targets[t].state = .waking)
    (htimer : s.targets[t].claimTimer.isSome = true) (hretry : s.targets[t].retry = none) :
    exec (.claimTimerExpiryWaking t) s =
      .next ((s.modTarget t (Target.enter .lost)).report
        (targetLost t none (BitVec.ofNat 16 (256 + s.targets[t].wakeLevel.val))) false) := by
  change execClaimTimerExpiryWaking t s = _
  simp only [execClaimTimerExpiryWaking, if_pos (And.intro hstate htimer), hretry]

/-! ## Entries into a state -/

theorem freeRecord_eq (s : State) (slot : SlotNo) :
    s.freeRecord slot = { s with records := s.records.filter fun x => x.slot ≠ slot } := by
  refine congrArg s.setRecords (List.filter_congr fun x _ => ?_)
  rw [Bool.eq_iff_iff, bne_iff_ne, decide_eq_true_iff]

theorem enterReady_eq (s : State) (t : TargetNo) :
    s.enterReady t = (s.withTarget t (s.targets[t].resting .ready)).reexamine t := rfl

theorem inRange_none {n k : Nat} (h : n ≤ k) : inRange n k = none :=
  dif_neg (by omega)

theorem inRange_val {n k : Nat} {v : Fin n} (h : v.val = k) : inRange n k = some v := by
  subst h
  exact dif_pos v.isLt

/-! ## The answers to an offer (R80, R103, R104, R107, R108) -/

theorem takeClaim_void {s : State} {t : TargetNo} {o : Offer} {r : Record} {m : OfferMark}
    (hoffer : s.currentOffer t = some (o, r, m)) (hvoid : m.void = true) :
    s.takeClaim t o.tag = ((s.post (targetLink t) (.void o.tag)).freeRecord r.slot).enterReady t := by
  rw [State.takeClaim, hoffer]
  dsimp only
  rw [if_pos rfl, if_pos hvoid]

theorem takeClaim_accepted {s : State} {t : TargetNo} {o : Offer} {r : Record} {m : OfferMark}
    (hoffer : s.currentOffer t = some (o, r, m)) (hvoid : m.void = false) :
    s.takeClaim t o.tag = s.acceptClaim t o r := by
  rw [State.takeClaim, hoffer]
  dsimp only
  rw [if_pos rfl, hvoid]
  rfl

theorem takeRefuse_void {s : State} {t : TargetNo} {o : Offer} {r : Record} {m : OfferMark}
    (hoffer : s.currentOffer t = some (o, r, m)) (hvoid : m.void = true) :
    s.takeRefuse t o.tag = (s.freeRecord r.slot).enterReady t := by
  rw [State.takeRefuse, hoffer]
  dsimp only
  rw [if_pos rfl, if_pos hvoid]

/-- The withdrawal leaves the target's block alone, so the hold starts from the block as it was. -/
theorem takeRefuse_held {s : State} {t : TargetNo} {o : Offer} {r : Record} {m : OfferMark}
    (hoffer : s.currentOffer t = some (o, r, m)) (hvoid : m.void = false) :
    s.takeRefuse t o.tag =
      (s.withdraw r).withTarget t
        { s.targets[t].resting .held with holdTimer := some s.timers[t].holdTime } := by
  obtain ⟨hstate, -⟩ := State.currentOffer_some hoffer
  rw [State.takeRefuse, hoffer]
  dsimp only
  rw [if_pos rfl, hvoid, if_neg Bool.false_ne_true, State.modTarget_eq, withdraw_target s r hstate]
  rfl

/-- Settles O42: the claim is accepted, or the record withdrawn and the target held. -/
theorem offersAreAnswered : Obligations.OffersAreAnswered := by
  intro s t o r m hoffer hvoid _
  refine ⟨fun hframe => ?claim, fun hframe => ?refuse⟩
  case claim =>
    rw [exec_claimFrame_taken hframe, takeClaim_accepted hoffer hvoid, acceptClaim_eq, freeRecord_eq]
    rfl
  case refuse => rw [exec_refuseFrame_taken hframe, takeRefuse_held hoffer hvoid]

/-- Settles O43: the three commands free the void record and let the target enter READY. -/
theorem voidOffersEnd : Obligations.VoidOffersEnd := by
  intro s t o r m hoffer hvoid ready
  refine ⟨fun hframe => ?claim, fun hframe => ?refuse, fun htimer => ?timer⟩
  case claim =>
    obtain ⟨-, hup, -⟩ := State.targetFrame_some hframe
    rw [exec_claimFrame_taken hframe, takeClaim_void hoffer hvoid, State.post_up _ hup, freeRecord_eq,
      enterReady_eq]
    rfl
  case refuse =>
    rw [exec_refuseFrame_taken hframe, takeRefuse_void hoffer hvoid, freeRecord_eq, enterReady_eq]
  case timer =>
    rw [exec_claimTimerExpiry_void htimer hoffer hvoid, freeRecord_eq, enterReady_eq]

/-! ## DONE (R82 to R85) -/

theorem takeDone_top {s : State} {t : TargetNo} {top : InService} {deeper : List InService}
    (hstack : s.targets[t].stack = top :: deeper) :
    s.takeDone t top.claimTag =
      (s.withTarget t { s.targets[t] with stack := deeper }).reexamine t := by
  rw [State.takeDone, hstack]
  exact if_pos rfl

/-- When the top entry does not hold the tag, the uppermost of the others that does is reported. -/
theorem takeDone_deeper {s : State} {t : TargetNo} {tag : Byte} {top e : InService} {deeper : List InService}
    (hstack : s.targets[t].stack = top :: deeper) (hne : top.claimTag ≠ tag)
    (hfind : deeper.find? (fun x => x.claimTag == tag) = some e) :
    s.takeDone t tag = s.sendErr t .notTop tag (some e.index) := by
  simp only [State.takeDone, hstack, if_neg hne, hfind]

theorem takeDone_unknown {s : State} {t : TargetNo} {tag : Byte} (hnone : ∀ x ∈ s.targets[t].stack, x.claimTag ≠ tag) :
    s.takeDone t tag = s.sendErr t .notInService tag none := by
  cases hstack : s.targets[t].stack with
  | nil => simp only [State.takeDone, hstack]
  | cons top deeper =>
    rw [hstack, List.forall_mem_cons] at hnone
    obtain ⟨htop, hdeeper⟩ := hnone
    have hfind : deeper.find? (fun x => x.claimTag == tag) = none :=
      List.find?_eq_none.2 fun x hx => by simpa using hdeeper x hx
    simp only [State.takeDone, hstack, if_neg htop, hfind]

/-- Settles O45: the top entry is compared first, then the uppermost of the others that holds the tag. -/
theorem doneEndsTopService : Obligations.DoneEndsTopService := by
  intro s t tag hframe
  obtain ⟨-, hup, -⟩ := State.targetFrame_some hframe
  rw [exec_doneFrame_taken hframe]
  refine ⟨fun top deeper hstack htag => ?top, fun above e below hstack hne habove htag => ?deeper, fun hnone => ?none⟩
  case top => rw [← htag, takeDone_top hstack]
  case deeper =>
    cases above with
    | nil => exact absurd rfl hne
    | cons top above =>
      rw [List.forall_mem_cons] at habove
      obtain ⟨htop, habove⟩ := habove
      have hfind : (above ++ e :: below).find? (fun x => x.claimTag == tag) = some e := by
        rw [List.find?_append, List.find?_eq_none.2 (fun x hx => by simpa using habove x hx), Option.none_or,
          List.find?_cons_of_pos (by simpa using htag)]
      rw [takeDone_deeper hstack htop hfind, sendErr_up hup]
      rfl
  case none =>
    rw [takeDone_unknown hnone, sendErr_up hup]
    rfl

/-! ## READY, LEVEL and SLEEP (R87, R88, R109, R110, R114 to R116) -/

theorem takeReady_eq {s : State} {t : TargetNo} (hoffline : s.targets[t].state ≠ .offline) :
    s.takeReady t =
      if s.targets[t].state = .ready ∨ s.targets[t].state = .offered then s else s.enterReady t := by
  rw [State.takeReady]
  cases hstate : s.targets[t].state with
  | offline => exact absurd hstate hoffline
  | ready => rfl
  | offered => rfl
  | held => rfl
  | asleep => rfl
  | waking => rfl
  | lost => rfl

/-- The block of a target that goes to sleep with a wake level (R114). -/
def asleepAt (g : Target) (w : Level) : Target :=
  { g.resting .asleep with wakeLevel := w }

theorem enterAsleep_eq (s : State) (t : TargetNo) (w : Level) :
    s.enterAsleep t w =
      match (s.withTarget t (asleepAt s.targets[t] w)).wakeCause t with
      | some level => (s.withTarget t (asleepAt s.targets[t] w)).sendWake t level
      | none => s.withTarget t (asleepAt s.targets[t] w) := rfl

/-- A level at or below the wake level at which the target holds a record. -/
def Wakes (s : State) (t : TargetNo) (l : Level) : Prop :=
  l ≤ s.targets[t].wakeLevel ∧ ∃ r ∈ s.records, r.target = t ∧ r.level = l

theorem wakes_iff (s : State) (t : TargetNo) (l : Level) :
    (l ≤ s.targets[t].wakeLevel && !(s.levelList t l).isEmpty) = true ↔ Wakes s t l := by
  rw [Bool.and_eq_true, decide_eq_true_iff, Bool.not_eq_true', List.isEmpty_eq_false_iff_exists_mem]
  exact and_congr_right fun _ => exists_congr fun r => State.mem_levelList

theorem wakeCause_quiet {s : State} {t : TargetNo} (h : ∀ l, ¬ Wakes s t l) : s.wakeCause t = none :=
  List.find?_eq_none.2 fun l _ hl => h l ((wakes_iff s t l).1 hl)

/-- The wake test finds the most urgent level that wakes. -/
theorem wakeCause_least {s : State} {t : TargetNo} {l : Level} (hl : Wakes s t l)
    (hleast : ∀ k, Wakes s t k → l ≤ k) : s.wakeCause t = some l := by
  cases hcause : s.wakeCause t with
  | none => exact absurd ((wakes_iff s t l).2 hl) (List.find?_eq_none.1 hcause l (List.mem_finRange l))
  | some k =>
    unfold State.wakeCause at hcause
    have hk : Wakes s t k := (wakes_iff s t k).1 (List.find?_some hcause :)
    have hkl : k.val ≤ l.val :=
      find_le_of_pairwise_lt (f := Fin.val) (List.pairwise_lt_finRange 8) hcause (List.mem_finRange l)
        ((wakes_iff s t l).2 hl)
    exact congrArg some (le_antisymm hkl (hleast k hk))

theorem sendWake_up {s : State} {t : TargetNo} (hup : s.isUp (targetLink t) = true) (level : Level) :
    s.sendWake t level =
      (s.withTarget t
        { s.targets[t] with
          state := .waking
          claimTimer := some s.timers[t].claimTimeout
          retriesLeft := some s.timers[t].retries
          wakeSent := some level }).queued (targetLink t) (.wake level) := by
  rw [State.sendWake, State.modTarget_eq]
  exact State.post_up _ hup

theorem takeSleep_asleep {s : State} {t : TargetNo} {value : Byte} {w : Level} (hw : w.val = value.toNat)
    (hstate : s.targets[t].state ≠ .offered) : s.takeSleep t value = s.enterAsleep t w := by
  rw [State.takeSleep, inRange_val hw]
  exact if_neg hstate

theorem takeSleep_bad {s : State} {t : TargetNo} {value : Byte} (h : 8 ≤ value.toNat) :
    s.takeSleep t value = s.sendErr t .badValue value none := by
  rw [State.takeSleep, inRange_none h]

theorem takeSleep_offered {s : State} {t : TargetNo} {value : Byte} (h : value.toNat < 8)
    (hstate : s.targets[t].state = .offered) :
    s.takeSleep t value = s.post (targetLink t) (.err .busyOffer value) := by
  rw [State.takeSleep, inRange_val (v := ⟨value.toNat, h⟩) rfl]
  exact if_pos hstate

theorem takeLevel_good {s : State} {t : TargetNo} {value : Byte} {v : Fin 9} (hv : v.val = value.toNat) :
    s.takeLevel t value = (s.withTarget t { s.targets[t] with threshold := v }).reexamine t := by
  rw [State.takeLevel, inRange_val hv]
  rfl

theorem takeLevel_bad {s : State} {t : TargetNo} {value : Byte} (h : 9 ≤ value.toNat) :
    s.takeLevel t value = s.sendErr t .badValue value none := by
  rw [State.takeLevel, inRange_none h]

theorem wakes_asleepAt {s : State} {t : TargetNo} {w l : Level} :
    Wakes (s.withTarget t (asleepAt s.targets[t] w)) t l ↔
      l ≤ w ∧ ∃ r ∈ s.records, r.target = t ∧ r.level = l := by
  rw [Wakes, State.withTarget_self, State.withTarget_records]
  rfl

/-- SLEEP with no record at or below the wake level puts the target to sleep. -/
theorem enterAsleep_quiet {s : State} {t : TargetNo} {w : Level}
    (hnone : ∀ r ∈ s.records, r.target = t → w < r.level) :
    s.enterAsleep t w = s.withTarget t (asleepAt s.targets[t] w) := by
  rw [enterAsleep_eq, wakeCause_quiet fun l hl => ?_]
  obtain ⟨hlw, r, hr, ht, rfl⟩ := wakes_asleepAt.1 hl
  exact absurd (hnone r hr ht) (not_lt.2 hlw)

/-- SLEEP with a record at or below the wake level wakes the target with the most urgent level held. -/
theorem enterAsleep_wakes {s : State} {t : TargetNo} {w : Level} (hup : s.isUp (targetLink t) = true) {r : Record}
    (hr : r ∈ s.records) (ht : r.target = t) (hrw : r.level ≤ w)
    (hleast : ∀ x ∈ s.records, x.target = t → r.level ≤ x.level) :
    s.enterAsleep t w =
      ((s.withTarget t (asleepAt s.targets[t] w)).withTarget t
        { s.targets[t].resting .waking with
          wakeLevel := w
          claimTimer := some s.timers[t].claimTimeout
          retriesLeft := some s.timers[t].retries
          wakeSent := some r.level }).queued (targetLink t) (.wake r.level) := by
  have hcause : (s.withTarget t (asleepAt s.targets[t] w)).wakeCause t = some r.level := by
    refine wakeCause_least (wakes_asleepAt.2 ⟨hrw, r, hr, ht, rfl⟩) fun k hk => ?_
    obtain ⟨-, x, hx, hxt, rfl⟩ := wakes_asleepAt.1 hk
    exact hleast x hx hxt
  rw [enterAsleep_eq, hcause]
  dsimp only
  rw [sendWake_up (s := s.withTarget t _) hup, State.withTarget_self]
  rfl

/-- Settles O46: READY, LEVEL and SLEEP by the target's state and the frame's value. -/
theorem readyLevelAndSleepAreTaken : Obligations.ReadyLevelAndSleepAreTaken := by
  intro s t
  refine ⟨fun hframe => ?ready, fun value hframe => ?level, fun value hframe => ?sleep⟩
  case ready =>
    obtain ⟨hoffline, -⟩ := State.targetFrame_some hframe
    rw [exec_readyFrame_taken hframe, takeReady_eq hoffline, enterReady_eq]
  case level =>
    obtain ⟨-, hup, -⟩ := State.targetFrame_some hframe
    rw [exec_levelFrame_taken hframe]
    refine ⟨fun v hv => by rw [takeLevel_good hv], fun hbad => ?_⟩
    rw [takeLevel_bad hbad, sendErr_up hup]
    rfl
  case sleep =>
    obtain ⟨-, hup, -⟩ := State.targetFrame_some hframe
    rw [exec_sleepFrame_taken hframe]
    refine ⟨fun hbad => ?_, fun hgood hstate => ?_, fun w hw hstate => ⟨fun hnone => ?_, fun r hr ht hrw hleast => ?_⟩⟩
    · rw [takeSleep_bad hbad, sendErr_up hup]
      rfl
    · rw [takeSleep_offered hgood hstate, State.post_up _ hup]
    · rw [takeSleep_asleep hw hstate, enterAsleep_quiet hnone]
      rfl
    · rw [takeSleep_asleep hw hstate, enterAsleep_wakes hup hr ht hrw hleast]
      rfl

/-! ## The timers (R109, R111, R112, R117) -/

theorem retry_of_ne {g : Target} {n : Fin 8} (h : g.retriesLeft = some n) (hn : n ≠ 0) : g.retry = some (n - 1) := by
  rw [Target.retry, h]
  exact if_neg hn

theorem retry_zero {g : Target} (h : g.retriesLeft = some 0) : g.retry = none := by
  rw [Target.retry, h]
  exact if_pos rfl

theorem resend_up {s : State} {t : TargetNo} (hup : s.isUp (targetLink t) = true) (retries : Fin 8) (f : OutFrame) :
    s.resend t retries f =
      (s.withTarget t
        { s.targets[t] with
          claimTimer := some s.timers[t].claimTimeout, retriesLeft := some retries }).queued (targetLink t) f := by
  rw [State.resend, State.modTarget_eq]
  exact State.post_up _ hup

theorem targetLost_eq (t : TargetNo) (i : Option Index) (detail : Half) :
    targetLost t i detail =
      { kind := .targetLost, link := some (targetLink t), target := some t, index := i, event := none,
        detail := detail } := by
  rw [targetLost, linkFault, linkTarget_targetLink]

/-- Settles O47: the retries left decide between a retransmission and the loss of the target. -/
theorem timersExpire : Obligations.TimersExpire := by
  intro s t hup lost
  refine ⟨fun o r m n hoffer hvoid _ htimer hretries => ?offered, fun n level hstate htimer hretries hwake => ?waking,
    fun hstate htimer => ?held⟩
  case offered =>
    refine ⟨fun hn => ?_, fun hn => ?_⟩
    · rw [exec_claimTimerExpiry_resent htimer hoffer hvoid (retry_of_ne hretries hn), resend_up hup]
      rfl
    · subst hn
      obtain ⟨hstate, -⟩ := State.currentOffer_some hoffer
      rw [exec_claimTimerExpiry_lost htimer hoffer hvoid (retry_zero hretries), State.modTarget_eq,
        withdraw_target s r hstate, targetLost_eq, ← BitVec.ofNat_toNat]
      rfl
  case waking =>
    refine ⟨fun hn => ?_, fun hn => ?_⟩
    · rw [exec_claimTimerExpiryWaking_resent hstate htimer hwake (retry_of_ne hretries hn), resend_up hup]
    · subst hn
      rw [exec_claimTimerExpiryWaking_lost hstate htimer (retry_zero hretries), targetLost_eq]
      rfl
  case held =>
    change execHoldTimerExpiry t s = _
    rw [execHoldTimerExpiry, if_pos ⟨hstate, htimer⟩, enterReady_eq]

end Sys2Proof.Proofs
end

section
/-! Receiving (8.2, 8.4 to 8.7): a frame on the lane read back by the envelope rule, the kinds and lengths that a peer
may send, and what a link does with a HELLO, a good frame and a bad one. -/

open Sys2Proof Sys2Proof.Machine

namespace Sys2Proof.Proofs

/-! ## Frames on the lane (R196, R197) -/

/-- A frame with its right check value. -/
def checkedWire (kind : Byte) (body : List Byte) : Wire :=
  { kind := kind, body := body, check := frameCheck kind body }

theorem checkedWire_bytes (kind : Byte) (body : List Byte) : (checkedWire kind body).bytes = frameBytes kind body := by
  unfold Wire.bytes checkedWire frameBytes
  simp only [List.cons_append]

theorem checkedWire_check (kind : Byte) (body : List Byte) :
    (checkedWire kind body).check = frameCheck (checkedWire kind body).kind (checkedWire kind body).body := by
  simp only [checkedWire]

theorem passes_iff (w : Wire) : w.passes = true ↔ w.check = frameCheck w.kind w.body := by
  unfold Wire.passes
  rw [beq_iff_eq, eq_comm]

theorem receiveBytes_wire (s : State) (l : LinkNo) {w : Wire} (h : w.body.length ≤ 255) :
    s.receiveBytes l w.bytes = s.receive l w := by
  have hread := Wire.ofBytes_bytes h []
  rw [List.append_nil] at hread
  simp only [State.receiveBytes, hread]

theorem receiveBytes_frame (s : State) (l : LinkNo) (kind : Byte) {body : List Byte} (h : body.length ≤ 255) :
    s.receiveBytes l (frameBytes kind body) = s.receive l (checkedWire kind body) := by
  rw [← checkedWire_bytes]
  exact receiveBytes_wire s l (w := checkedWire kind body) h

/-! ## What a link does with a frame, by its state (R144, R146, R149) -/

theorem receive_training {s : State} {l : LinkNo} {w : Wire} (hstate : s.links[l].state = .training)
    (hpass : w.check = frameCheck w.kind w.body) (hkind : w.kind = 0x01) :
    s.receive l w = s.helloTraining l w.body := by
  have hhello : (w.passes && w.kind == FrameKind.code .hello) = true := by
    rw [(passes_iff w).2 hpass, hkind]
    rfl
  simp only [State.receive, hstate, if_pos hhello]

theorem receive_training_discards {s : State} {l : LinkNo} {w : Wire} (hstate : s.links[l].state = .training)
    (h : w.check ≠ frameCheck w.kind w.body ∨ w.kind ≠ 0x01) : s.receive l w = s := by
  have hhello : ¬ (w.passes && w.kind == FrameKind.code .hello) = true := by
    rw [Bool.and_eq_true, passes_iff, beq_iff_eq, not_and_or]
    exact h
  simp only [State.receive, hstate, if_neg hhello]

theorem receive_closed {s : State} {l : LinkNo} (h : s.links[l].state = .down ∨ s.links[l].state = .faulted)
    (w : Wire) : s.receive l w = s := by
  rcases h with h | h <;> simp only [State.receive, h]

theorem receive_hello {s : State} {l : LinkNo} {w : Wire} (hstate : s.links[l].state = .up)
    (hpass : w.check = frameCheck w.kind w.body) (hkind : w.kind = 0x01) :
    s.receive l w = s.helloUp l w.body := by
  simp only [State.receive, hstate, if_pos ((passes_iff w).2 hpass)]
  exact if_pos hkind

theorem receive_other {s : State} {l : LinkNo} {w : Wire} (hstate : s.links[l].state = .up)
    (hpass : w.check = frameCheck w.kind w.body) (hkind : w.kind ≠ 0x01) :
    s.receive l w = s.receiveOther l w := by
  simp only [State.receive, hstate, if_pos ((passes_iff w).2 hpass)]
  exact if_neg hkind

theorem receive_failed {s : State} {l : LinkNo} {w : Wire} (hstate : s.links[l].state = .up)
    (hfail : w.check ≠ frameCheck w.kind w.body) :
    s.receive l w = ((s.countError l).finish l).checkLimit l := by
  simp only [State.receive, hstate, if_neg fun h => hfail ((passes_iff w).1 h)]

/-! ## HELLO (R144, R145, R199) -/

theorem readHello_code (role : Role) (mark : Mark) : readHello [role.code, mark.code] = some (role, mark) := by
  cases role <;> cases mark <;> rfl

theorem readHello_some {body : List Byte} {role : Role} {mark : Mark} (h : readHello body = some (role, mark)) :
    body = [role.code, mark.code] := by
  unfold readHello at h
  split at h
  · next r m =>
    split at h
    · next hr =>
      split at h
      · next hm =>
        cases h
        rw [hr, hm]
        rfl
      · split at h
        · next hm =>
          cases h
          rw [hr, hm]
          rfl
        · cases h
    · split at h
      · next hr =>
        split at h
        · next hm =>
          cases h
          rw [hr, hm]
          rfl
        · split at h
          · next hm =>
            cases h
            rw [hr, hm]
            rfl
          · cases h
      · cases h
  · cases h

theorem linkRole_code (l : LinkNo) : (linkRole l).code = if l.val < 12 then 0x00 else 0x01 := by
  unfold linkRole
  split <;> rfl

/-- A link that a bad HELLO has faulted (R144, R145). -/
def helloFaulted (s : State) (l : LinkNo) : State :=
  (s.modLink l Link.enterFaulted).report (linkFault .linkFaulted l none 1) false

/-- The body of a HELLO of the role of the link with a mark. -/
def helloBody (l : LinkNo) (mark : Mark) : List Byte :=
  [(linkRole l).code, mark.code]

theorem helloTraining_good (s : State) (l : LinkNo) (mark : Mark) :
    s.helloTraining l (helloBody l mark) = s.sessionStarted l (mark == .call) := by
  simp only [State.helloTraining, helloBody, readHello_code, if_true, sessionStart_eq]

/-- A HELLO that is not one of the two of the link's role is bad. -/
theorem readHello_bad {l : LinkNo} {body : List Byte} (h : ∀ mark, body ≠ helloBody l mark) {role : Role} {mark : Mark}
    (hread : readHello body = some (role, mark)) : role ≠ linkRole l := by
  rintro rfl
  exact h mark (readHello_some hread)

theorem helloTraining_bad (s : State) {l : LinkNo} {body : List Byte} (h : ∀ mark, body ≠ helloBody l mark) :
    s.helloTraining l body = helloFaulted s l := by
  unfold State.helloTraining
  split
  · next role mark hread => exact if_neg (readHello_bad h hread)
  · rfl

theorem helloUp_call (s : State) (l : LinkNo) :
    s.helloUp l (helloBody l .call) = (s.sessionEnd l).sessionStarted l true := by
  simp only [State.helloUp, helloBody, readHello_code, if_true, sessionStart_eq]

theorem helloUp_answer (s : State) (l : LinkNo) : s.helloUp l (helloBody l .answer) = s := by
  simp only [State.helloUp, helloBody, readHello_code, if_true]

theorem helloUp_bad (s : State) {l : LinkNo} {body : List Byte} (h : ∀ mark, body ≠ helloBody l mark) :
    s.helloUp l body = helloFaulted (s.sessionEnd l) l := by
  unfold State.helloUp
  split
  · next role mark hread => exact if_neg (readHello_bad h hread)
  · rfl

theorem exec_helloInTraining {s : State} {l : LinkNo} (hstate : s.links[l].state = .training) (bytes : List Byte) :
    exec (.helloInTraining l bytes) s = .next (s.receiveBytes l bytes) := by
  change execHelloInTraining l bytes s = _
  rw [execHelloInTraining, if_pos hstate]

theorem exec_helloInUp {s : State} {l : LinkNo} (hstate : s.links[l].state = .up) (bytes : List Byte) :
    exec (.helloInUp l bytes) s = .next (s.receiveBytes l bytes) := by
  change execHelloInUp l bytes s = _
  rw [execHelloInUp, if_pos hstate]

/-- Settles O32: the body decides between a session start, nothing and the fault of the link. -/
theorem helloStartsAndEndsSessions : Obligations.HelloStartsAndEndsSessions := by
  intro s l body hlength bytes role fault faulted
  have hcallBody : [role, 0x00] = helloBody l .call := congrArg (fun x => [x, (0x00 : Byte)]) (linkRole_code l).symm
  have hanswerBody : [role, 0x01] = helloBody l .answer := congrArg (fun x => [x, (0x01 : Byte)]) (linkRole_code l).symm
  have hbad (hcall : body ≠ [role, 0x00]) (hanswer : body ≠ [role, 0x01]) (mark : Mark) : body ≠ helloBody l mark := by
    cases mark with
    | call => exact hcallBody ▸ hcall
    | answer => exact hanswerBody ▸ hanswer
  refine ⟨fun hstate => ?training, fun hstate => ?up⟩
  case training =>
    have hexec : exec (.helloInTraining l bytes) s = .next (s.helloTraining l body) := by
      rw [exec_helloInTraining hstate, receiveBytes_frame s l 0x01 hlength,
        receive_training hstate (checkedWire_check 0x01 body) rfl]
      rfl
    rw [hexec]
    refine ⟨fun hbody => ?_, fun hbody => ?_, fun hcall hanswer => ?_, fun w hw hfail => ?_⟩
    · rw [hbody, hcallBody, helloTraining_good, show (Mark.call == Mark.call) = true from rfl]
    · rw [hbody, hanswerBody, helloTraining_good, show (Mark.answer == Mark.call) = false from rfl]
    · rw [helloTraining_bad s (hbad hcall hanswer)]
      rfl
    · rw [exec_helloInTraining hstate, receiveBytes_wire s l hw, receive_training_discards hstate (.inl hfail)]
  case up =>
    have hexec : exec (.helloInUp l bytes) s = .next (s.helloUp l body) := by
      rw [exec_helloInUp hstate, receiveBytes_frame s l 0x01 hlength, receive_hello hstate (checkedWire_check 0x01 body) rfl]
      rfl
    rw [hexec]
    refine ⟨fun hbody => ?_, fun hbody => ?_, fun hcall hanswer => ?_⟩
    · rw [hbody, hcallBody, helloUp_call]
    · rw [hbody, hanswerBody, helloUp_answer]
    · rw [helloUp_bad s (hbad hcall hanswer)]
      rfl

/-! ## The kinds and lengths of a peer's frames (R157, R199, 11.2) -/

theorem FrameKind.ofCode_code (k : FrameKind) : FrameKind.ofCode k.code = some k := by
  cases k <;> rfl

theorem FrameKind.ofCode_some {c : Byte} {k : FrameKind} (h : FrameKind.ofCode c = some k) : c = k.code := by
  unfold FrameKind.ofCode at h
  have hcode := List.find?_some h
  rw [beq_iff_eq] at hcode
  exact hcode.symm

/-- The codes that a peer may send on a link are those of the kinds of its role. -/
theorem peerSends_code (l : LinkNo) (k : FrameKind) :
    peerSends l k.code = FrameKind.fromPeer (linkRole l) k := by
  unfold peerSends linkRole
  split <;> cases k <;> rfl

/-- A code that a peer sends names a kind. -/
theorem exists_kind_of_peerSends {l : LinkNo} {c : Byte} (h : peerSends l c = true) : ∃ k : FrameKind, c = k.code := by
  unfold peerSends at h
  split at h
  · rw [Bool.or_eq_true, beq_iff_eq, beq_iff_eq] at h
    rcases h with rfl | rfl
    · exact ⟨.event, rfl⟩
    · exact ⟨.request, rfl⟩
  · rw [Bool.or_eq_true, beq_iff_eq, Bool.and_eq_true, decide_eq_true_iff, decide_eq_true_iff] at h
    rcases h with rfl | ⟨hlow, hhigh⟩
    · exact ⟨.request, rfl⟩
    · have hcode : c = 0x0B ∨ c = 0x0C ∨ c = 0x0D ∨ c = 0x0E ∨ c = 0x0F ∨ c = 0x10 := by bv_omega
      rcases hcode with rfl | rfl | rfl | rfl | rfl | rfl
      · exact ⟨.claim, rfl⟩
      · exact ⟨.refuse, rfl⟩
      · exact ⟨.done, rfl⟩
      · exact ⟨.ready, rfl⟩
      · exact ⟨.level, rfl⟩
      · exact ⟨.sleep, rfl⟩

theorem readPayload_isSome (bs : List Byte) :
    (readPayload bs).isSome = (bs.length == 0 || bs.length == 4 || bs.length == 8) := by
  match bs with
  | [] | [_] | [_, _] | [_, _, _] | [_, _, _, _] | [_, _, _, _, _] | [_, _, _, _, _, _] | [_, _, _, _, _, _, _]
  | [_, _, _, _, _, _, _, _] => rfl
  | _ :: _ :: _ :: _ :: _ :: _ :: _ :: _ :: _ :: _ => simp [readPayload]

theorem word_of_bytes (w : Word) :
    w.extractLsb' 24 8 ++ w.extractLsb' 16 8 ++ w.extractLsb' 8 8 ++ w.extractLsb' 0 8 = w := by
  rw [BitVec.extractLsb'_append_extractLsb'_eq_extractLsb' (by rfl : 24 = 16 + 8),
    BitVec.extractLsb'_append_extractLsb'_eq_extractLsb' (by rfl : 16 = 8 + 8)]
  exact (BitVec.extractLsb'_append_extractLsb'_eq_extractLsb' rfl).trans BitVec.extractLsb'_eq_self

theorem readPayload_bytes {payload : List Word} (h : payload.length ≤ 2) :
    readPayload (payload.flatMap (bytesOf 4)) = some payload := by
  match payload with
  | [] => rfl
  | [a] => exact congrArg (fun x => some [x]) (word_of_bytes a)
  | [a, b] => exact congrArg₂ (fun x y => some [x, y]) (word_of_bytes a) (word_of_bytes b)
  | _ :: _ :: _ :: _ => simp at h

/-- The one byte of a body that holds a value alone. -/
theorem readBody_value {k : FrameKind} {f : Byte → InFrame} (h : ∀ b, readBody k [b] = some (f b))
    (hnil : readBody k [] = none) (hlong : ∀ a b bs, readBody k (a :: b :: bs) = none) (body : List Byte) :
    (readBody k body).isSome = (body.length == 1) := by
  match body with
  | [] => rw [hnil]; rfl
  | [b] => rw [h]; rfl
  | a :: b :: bs => rw [hlong]; simp

/-- A body reads as a frame of its kind exactly when its length agrees with the kind. -/
theorem readBody_isSome {role : Role} {k : FrameKind} (h : FrameKind.fromPeer role k = true) (body : List Byte) :
    (readBody k body).isSome = lengthAgrees k.code body.length := by
  cases k with
  | hello | credit | nack | response | offer | wake | void | err => cases role <;> cases h
  | event =>
    cases body with
    | nil => rfl
    | cons number rest =>
      change ((readPayload rest).map (InFrame.event number)).isSome = _
      rw [Option.isSome_map, readPayload_isSome]
      simp [lengthAgrees, FrameKind.code]
  | request =>
    match body with
    | [] | [_] => rfl
    | seq :: op :: operands =>
      change (if operands.length ≤ 46 then some (InFrame.request seq op operands) else none).isSome =
        (decide (2 ≤ operands.length + 2) && decide (operands.length + 2 ≤ 48))
      by_cases hroom : operands.length ≤ 46
      · simp [hroom]
      · simp [hroom, show ¬ operands.length + 2 ≤ 48 by omega]
  | ready => cases body <;> simp [readBody, lengthAgrees, FrameKind.code]
  | claim | refuse | done | level | sleep =>
    exact readBody_value (fun _ => rfl) rfl (fun _ _ _ => rfl) body

/-! ## Good frames (R149) -/

/-- The kind of an accepted frame. -/
def frameKind : InFrame → FrameKind
  | .event _ _ => .event
  | .request _ _ _ => .request
  | .claim _ => .claim
  | .refuse _ => .refuse
  | .done _ => .done
  | .ready => .ready
  | .level _ => .level
  | .sleep _ => .sleep

theorem kindAndBody_kind (f : InFrame) : f.kindAndBody.1 = (frameKind f).code := by
  cases f <;> rfl

/-- The sizes of a frame that a peer may send (11.2). -/
def FrameSized (f : InFrame) : Prop :=
  f.payloadWords ≤ 2 ∧ ∀ sequence operation operands, f = .request sequence operation operands → operands.length ≤ 46

theorem readBody_kindAndBody {f : InFrame} (h : FrameSized f) : readBody (frameKind f) f.kindAndBody.2 = some f := by
  obtain ⟨hpayload, hoperands⟩ := h
  cases f with
  | event number payload => exact congrArg (Option.map (InFrame.event number)) (readPayload_bytes hpayload)
  | request seq op operands => exact if_pos (hoperands seq op operands rfl)
  | claim _ | refuse _ | done _ | ready | level _ | sleep _ => rfl

theorem kindAndBody_length {f : InFrame} (h : FrameSized f) : f.kindAndBody.2.length ≤ 255 := by
  obtain ⟨hpayload, hoperands⟩ := h
  cases f with
  | event number payload =>
    have hlength : (payload.flatMap (bytesOf 4)).length = 4 * payload.length :=
      flatMap_length_eq payload fun _ _ => bytesOf_length 4 _
    simp only [InFrame.kindAndBody, List.length_cons, hlength]
    simp only [InFrame.payloadWords] at hpayload
    omega
  | request seq op operands =>
    have := hoperands seq op operands rfl
    simp only [InFrame.kindAndBody, List.length_cons]
    omega
  | claim _ | refuse _ | done _ | ready | level _ | sleep _ => simp [InFrame.kindAndBody]

theorem receiveOther_accepts {s : State} {l : LinkNo} {w : Wire} {k : FrameKind} {f : InFrame}
    (hroom : s.links[l].ingress.length < Config.ingressSize) (hkind : w.kind = k.code)
    (hpeer : peerSends l w.kind = true) (hbody : readBody k w.body = some f) :
    s.receiveOther l w = s.withLink l { s.links[l] with ingress := s.links[l].ingress ++ [f] } := by
  have hrole : FrameKind.fromPeer (linkRole l) k = true := by rw [← peerSends_code, ← hkind, hpeer]
  unfold State.receiveOther
  rw [if_pos hroom, hkind, FrameKind.ofCode_code]
  dsimp only
  rw [if_pos hrole, hbody]
  rfl

/-- No HELLO is one of the frames a peer sends in a session. -/
theorem ne_hello_of_peerSends {l : LinkNo} {c : Byte} (h : peerSends l c = true) : c ≠ 0x01 := by
  rintro rfl
  have hfalse : peerSends l 0x01 = false := by
    unfold peerSends
    split <;> rfl
  rw [hfalse] at h
  cases h

theorem exec_frameReceive (s : State) (l : LinkNo) (bytes : List Byte) :
    exec (.frameReceive l bytes) s = .next (s.receiveBytes l bytes) := rfl

/-! ## EVENT frames (R43, R150) -/

theorem exec_externalArrival_passes {s : State} {n : SourceLink} (h : s.arriving[n] = none) (order : List TargetNo) :
    exec (.externalArrival n order) s = .next (s.passEvent n) := by
  change execExternalArrival n order s = _
  simp only [execExternalArrival, h]

theorem passEvent_none {s : State} {n : SourceLink} (h : s.waiting (sourceLink n) InFrame.isEvent = none) :
    s.passEvent n = s := by
  simp only [State.passEvent, h]

theorem passEvent_some {s : State} {n : SourceLink} {number : Byte} {payload : List Word}
    (h : s.waiting (sourceLink n) InFrame.isEvent = some (.event number payload)) :
    s.passEvent n =
      { s with
        arriving :=
          s.arriving.set n
            (some { session := s.links[sourceLink n].session, event := number, payload := payload }) } := by
  simp only [State.passEvent, h]

theorem waiting_up {s : State} {l : LinkNo} (hup : s.links[l].state = .up) (hload : s.loading = false)
    (p : InFrame → Bool) : s.waiting l p = s.links[l].ingress.find? p := by
  unfold State.waiting
  rw [isUp_iff.2 hup, hload]
  rfl

theorem waiting_not_up {s : State} {l : LinkNo} (hup : s.links[l].state ≠ .up) (p : InFrame → Bool) :
    s.waiting l p = none := by
  unfold State.waiting
  rw [if_neg]
  rw [Bool.and_eq_true, isUp_iff]
  exact fun h => hup h.1

/-- Settles O33: acceptance by kind and length, the discards by link state, and the oldest EVENT passed on. -/
theorem framesAreAccepted : Obligations.FramesAreAccepted := by
  refine ⟨fun s l f hstate hroom hpeer hpayload hoperands => ?accepted, fun s l w hw hclosed => ?discarded,
    fun s n order hload hfree => ?passed⟩
  case accepted =>
    have hfits : FrameSized f := ⟨hpayload, hoperands⟩
    rw [exec_frameReceive, receiveBytes_frame s l _ (kindAndBody_length hfits),
      receive_other hstate (checkedWire_check _ _) (ne_hello_of_peerSends hpeer),
      receiveOther_accepts hroom (kindAndBody_kind f) hpeer (readBody_kindAndBody hfits)]
  case discarded =>
    rw [exec_frameReceive, receiveBytes_wire s l hw]
    rcases hclosed with hdown | hfaulted | ⟨htraining, hkind⟩
    · rw [receive_closed (.inl hdown)]
    · rw [receive_closed (.inr hfaulted)]
    · rw [receive_training_discards htraining (.inr hkind)]
  case passed =>
    intro k
    rw [exec_externalArrival_passes hfree]
    refine ⟨fun hdown => ?_, fun hnone => ?_, fun before after number payload hup hbuffer hbefore => ?_⟩
    · rw [passEvent_none (waiting_not_up hdown _)]
    · rw [passEvent_none]
      by_cases hup : k.state = .up
      · rw [waiting_up hup hload, List.find?_eq_none]
        exact fun f hf => by simp [hnone f hf]
      · exact waiting_not_up hup _
    · rw [passEvent_some (number := number) (payload := payload)]
      rw [waiting_up hup hload, show s.links[sourceLink n].ingress = _ from hbuffer, List.find?_append,
        List.find?_eq_none.2 (fun f hf => by simp [hbefore f hf])]
      rfl

/-! ## Bad frames (R154 to R157, R199) -/

theorem report_withLink (s : State) (l : LinkNo) (k : Link) (r : FaultRecord) (marked : Bool) :
    (s.withLink l k).report r marked = (s.report r marked).withLink l k := by
  unfold State.report State.recordFault State.raiseEvent
  repeat' split
  all_goals first | rfl | contradiction

/-- A report and the end of a frame do not disturb each other. -/
theorem report_finish (s : State) (l : LinkNo) (r : FaultRecord) (marked : Bool) :
    (s.report r marked).finish l = (s.withLink l s.links[l].finished).report r marked := by
  rw [State.finish_eq, State.report_links, report_withLink]

/-- The state of a link with one error more counted and a frame finished (R154). -/
def errorCounted (s : State) (l : LinkNo) : State :=
  s.withLink l { s.links[l].finished with errors := s.links[l].errors + 1 }

theorem countError_finish (s : State) (l : LinkNo) : (s.countError l).finish l = errorCounted s l := by
  rw [State.finish_eq, State.countError, State.modLink_eq, State.withLink_self, State.withLink_withLink]
  rfl

/-- CREDIT_OVERRUN with the error count that it brought about (R155). -/
def overrunFault (l : LinkNo) (errors : Nat) : FaultRecord :=
  linkFault .creditOverrun l none (BitVec.ofNat 16 errors)

theorem receiveOther_overrun {s : State} {l : LinkNo} (w : Wire) (hfull : 4 ≤ s.links[l].ingress.length) :
    s.receiveOther l w =
      ((errorCounted s l).report (overrunFault l (s.links[l].errors + 1)) false).checkLimit l := by
  have hroom : ¬ s.links[l].ingress.length < Config.ingressSize := not_lt.2 hfull
  unfold State.receiveOther
  rw [if_neg hroom]
  dsimp only
  have herrors : (s.countError l).links[l].errors = s.links[l].errors + 1 := by
    rw [State.countError, State.modLink_eq, State.withLink_self]
  rw [herrors, report_finish, ← State.finish_eq, countError_finish]
  rfl

theorem checkLimit_below {s : State} {l : LinkNo} (h : s.links[l].errors < s.links[l].record.errorLimit.val) :
    s.checkLimit l = s := by
  rw [State.checkLimit, if_neg (by omega)]

theorem checkLimit_reached {s : State} {l : LinkNo} (h : s.links[l].record.errorLimit.val ≤ s.links[l].errors) :
    s.checkLimit l =
      ((s.report (linkFault .linkFaulted l none 2) false).sessionEnd l).modLink l Link.enterFaulted := by
  rw [State.checkLimit, if_pos h]

/-- Settles O34: the error is counted and the frame finished, and then the count is compared with the limit. -/
theorem frameErrorsAreCounted : Obligations.FrameErrorsAreCounted := by
  intro s l w overrun hstate hw hbad errors counted b
  have hexec : exec (.frameReceive l w.bytes) s = .next (b.checkLimit l) := by
    rw [exec_frameReceive, receiveBytes_wire s l hw]
    cases overrun with
    | true =>
      obtain ⟨hpass, hkind, hfull⟩ := hbad
      rw [receive_other hstate hpass hkind, receiveOther_overrun w hfull]
      rfl
    | false =>
      rw [receive_failed hstate hbad, countError_finish]
      rfl
  have hlinks : b.links = counted.links := by
    cases overrun with
    | true => exact State.report_links counted _ false
    | false => rfl
  have hlink : b.links[l] = { s.links[l].finished with errors := errors } := by
    rw [hlinks]
    exact State.withLink_self ..
  rw [hexec]
  refine ⟨fun hbelow => ?_, fun hreached => ?_⟩
  · rw [checkLimit_below (by rw [hlink]; exact hbelow)]
  · rw [checkLimit_reached (by rw [hlink]; exact hreached)]
    rfl

theorem receiveOther_wrongKind {s : State} {l : LinkNo} {w : Wire} (hroom : s.links[l].ingress.length < Config.ingressSize)
    (hpeer : peerSends l w.kind = false) : s.receiveOther l w = s.discardWithErr l .wrongKind w.kind := by
  unfold State.receiveOther
  rw [if_pos hroom]
  split
  · next k hk =>
    rw [if_neg]
    rw [← peerSends_code, ← FrameKind.ofCode_some hk, hpeer]
    decide
  · rfl

theorem receiveOther_wrongLength {s : State} {l : LinkNo} {w : Wire} (hroom : s.links[l].ingress.length < Config.ingressSize)
    (hpeer : peerSends l w.kind = true) (hlength : lengthAgrees w.kind w.body.length = false) :
    s.receiveOther l w = s.discardWithErr l .lengthMismatch w.kind := by
  obtain ⟨k, hk⟩ := exists_kind_of_peerSends hpeer
  have hrole : FrameKind.fromPeer (linkRole l) k = true := by rw [← peerSends_code, ← hk, hpeer]
  have hbody : readBody k w.body = none := by
    rw [← Option.not_isSome_iff_eq_none, readBody_isSome hrole, ← hk, hlength]
    decide
  unfold State.receiveOther
  rw [if_pos hroom, hk, FrameKind.ofCode_code]
  dsimp only
  rw [if_pos hrole, hbody]

theorem linkTarget_isSome (l : LinkNo) : (linkTarget l).isSome = !decide (l.val < 12) := by
  revert l
  decide

/-- The ERR stands before the CREDIT frame of the frame then finished (R157). -/
theorem discardWithErr_eq {s : State} {l : LinkNo} (hup : s.isUp l = true) (reason : ErrReason) (kind : Byte) :
    s.discardWithErr l reason kind =
      ((if l.val < 12 then s else s.queued l (.err reason kind)).withLink l
        (if l.val < 12 then s else s.queued l (.err reason kind)).links[l].finished).report
        (linkFault .protocol l none (reason.detail kind)) false := by
  have htold : (if (linkTarget l).isSome then s.post l (.err reason kind) else s) =
      if l.val < 12 then s else s.queued l (.err reason kind) := by
    rw [linkTarget_isSome, State.post_up _ hup]
    by_cases h : l.val < 12 <;> simp [h]
  unfold State.discardWithErr
  dsimp only
  rw [htold, report_finish]

/-- Settles O35: the kind is tested before the length, and either way the frame is discarded with ERR. -/
theorem wrongFramesAreReported : Obligations.WrongFramesAreReported := by
  intro s l w hstate hw hpass hkind hroom hwrong reason code b
  have hup : s.isUp l = true := isUp_iff.2 hstate
  have hdiscard : s.receiveOther l w = s.discardWithErr l reason w.kind := by
    by_cases hpeer : peerSends l w.kind = false
    · rw [receiveOther_wrongKind hroom hpeer, show reason = .wrongKind from if_pos hpeer]
    · rw [receiveOther_wrongLength hroom (by simpa using hpeer) (hwrong.resolve_left hpeer),
        show reason = .lengthMismatch from if_neg hpeer]
  have hcode : reason.code.toNat = code := by
    by_cases hpeer : peerSends l w.kind = false
    · rw [show reason = .wrongKind from if_pos hpeer, show code = 0x16 from if_pos hpeer]
      rfl
    · rw [show reason = .lengthMismatch from if_neg hpeer, show code = 0x17 from if_neg hpeer]
      rfl
  rw [exec_frameReceive, receiveBytes_wire s l hw, receive_other hstate hpass hkind, hdiscard,
    discardWithErr_eq hup, errDetail_eq, hcode]
  rfl

end Sys2Proof.Proofs
end

section
/-! Requests (9.1, 9.2): each operation's body, the equation of its command once a request is asked, and the response
of a body that answers at once. -/

open Sys2Proof Sys2Proof.Machine

namespace Sys2Proof.Proofs

/-! ## The bodies of the operations -/

/-- A request that is answered in the step that takes it. -/
def performed (body : List Byte → State → State × Reply) (r : Request) (taken : State) : State :=
  (body r.operands taken).1.answer r (body r.operands taken).2 false

/-- A request that only reads. -/
def inspected (body : List Byte → State → Reply) : Request → State → State :=
  performed fun operands taken => (taken, body operands taken)

/-- What serves a request of the operation. -/
def operationBody (pace : Nat) : Operation → Request → State → State
  | .readStatus => inspected State.readStatus
  | .readLink => inspected State.readLink
  | .setLink => performed State.setLink
  | .readTarget => inspected State.readTarget
  | .resetLink => State.resetLink
  | .restart => State.startRestart
  | .freeze => performed State.freeze
  | .writeEntry => performed State.writeEntry
  | .writeWindow => performed State.writeWindow
  | .readEntry => inspected State.readEntry
  | .readWindow => inspected State.readWindow
  | .commit => performed State.commit
  | .cancel => performed State.cancel
  | .readPending => inspected State.readPending
  | .mask => State.startMask
  | .unmask => State.startUnmask pace
  | .readMask => inspected State.readMask
  | .readFaults => inspected State.readFaults
  | .clearFaults => performed State.clearFaults
  | .save => State.takeSave

theorem idle_of_takenFor {s : State} {op : Operation} {r : Request} (hop : op ≠ .cancel)
    (h : s.takenFor op = some r) : s.current = none :=
  (nextRequest_idle (nextRequest_of_takenFor hop h)).2

/-- The command of an operation serves the request that the engine may take as one of it. -/
theorem exec_command {s : State} {op : Operation} {r : Request} (pace : Nat) (h : s.takenFor op = some r) :
    exec (op.command pace) s = .next (s.serve op (operationBody pace op)) := by
  cases op with
  | mask =>
    change execMaskRange s = _
    simp only [execMaskRange, idle_of_takenFor (by decide) h]
    rfl
  | unmask =>
    change execUnmaskRange pace s = _
    simp only [execUnmaskRange, idle_of_takenFor (by decide) h]
    rfl
  | restart =>
    change execRestart s = _
    simp only [execRestart, idle_of_takenFor (by decide) h]
    rfl
  | _ => rfl

theorem exec_granted {s : State} {op : Operation} {r : Request} {operands : List Byte} (pace : Nat)
    (h : Granted s op r operands) : exec (op.command pace) s = .next (operationBody pace op r (dequeued s)) := by
  have htaken := h.1.1
  rw [exec_command pace htaken, State.serve_granted h]
  rfl

/-! ## Responses -/

/-- An answer with named bytes to an asked request, in a state that has the links it was asked in. -/
theorem answer_asked {s b : State} {op : Operation} {r : Request} (h : Asked s op r) (hlinks : b.links = s.links)
    (status : Status) (results : List Byte) :
    b.answer r { status := status, results := plain results } false =
      b.queued r.link (.response r.sequence status results) := by
  obtain ⟨-, -, hup, hsession⟩ := h
  rw [State.answer_named (by rw [isUp_iff, hlinks, ← isUp_iff, hup]) (by rw [hlinks, hsession]) (hasUnnamed_plain _),
    render_plain]

theorem fail_asked {s : State} {op : Operation} {r : Request} (h : Asked s op r) (status : Status) :
    (dequeued s).answer r (.fail status) false = s.responded r status [] :=
  answer_asked (b := dequeued s) h rfl status []

theorem ok_asked {s b : State} {op : Operation} {r : Request} (h : Asked s op r) (hlinks : b.links = s.links)
    (results : List Byte) : (dequeued b).answer r (.ok (plain results)) false = b.responded r .ok results :=
  answer_asked (b := dequeued b) h hlinks .ok results

theorem performed_fail {s : State} {op : Operation} {r : Request} {operands : List Byte}
    {body : List Byte → State → State × Reply} (h : Granted s op r operands) {status : Status}
    (hbody : body operands (dequeued s) = (dequeued s, .fail status)) :
    performed body r (dequeued s) = s.responded r status [] := by
  obtain ⟨hasked, rfl, -⟩ := h
  rw [performed, hbody, fail_asked hasked]

theorem performed_ok {s b : State} {op : Operation} {r : Request} {operands : List Byte}
    {body : List Byte → State → State × Reply} (h : Granted s op r operands) (hlinks : b.links = s.links)
    {results : List Byte} (hbody : body operands (dequeued s) = (dequeued b, .ok (plain results))) :
    performed body r (dequeued s) = b.responded r .ok results := by
  obtain ⟨hasked, rfl, -⟩ := h
  rw [performed, hbody, ok_asked hasked hlinks]

theorem inspected_fail {s : State} {op : Operation} {r : Request} {operands : List Byte}
    {body : List Byte → State → Reply} (h : Granted s op r operands) {status : Status}
    (hbody : body operands (dequeued s) = .fail status) :
    inspected body r (dequeued s) = s.responded r status [] :=
  performed_fail (body := fun operands taken => (taken, body operands taken)) h (congrArg (Prod.mk _) hbody)

theorem inspected_ok {s : State} {op : Operation} {r : Request} {operands : List Byte}
    {body : List Byte → State → Reply} (h : Granted s op r operands) {results : List Byte}
    (hbody : body operands (dequeued s) = .ok (plain results)) :
    inspected body r (dequeued s) = s.responded r .ok results :=
  performed_ok (body := fun operands taken => (taken, body operands taken)) (b := s) h rfl (congrArg (Prod.mk _) hbody)

/-- Results of which some bits are not named are sent with the present draw, which is then spent. -/
theorem inspected_drawn {s : State} {op : Operation} {r : Request} {operands : List Byte}
    {body : List Byte → State → Reply} (h : Granted s op r operands) {results : List ResultByte}
    (hbody : body operands (dequeued s) = .ok results) (hunnamed : hasUnnamed results = true) :
    inspected body r (dequeued s) =
      ({ s with draws := s.draws + 1 } : State).responded r .ok (render s.draws results) := by
  obtain ⟨⟨-, -, hup, hsession⟩, rfl, -⟩ := h
  rw [inspected, performed, hbody, State.answer, State.handOver_present (s := dequeued s) _ hup hsession]
  exact if_pos hunnamed

/-- A read request is answered OK, whatever bits of its results are not named. -/
theorem inspected_answers {s : State} {op : Operation} {r : Request} {operands : List Byte}
    {body : List Byte → State → Reply} (h : Granted s op r operands) {results : List ResultByte}
    (hbody : body operands (dequeued s) = .ok results) :
    ∃ draws, inspected body r (dequeued s) =
      ({ s with draws := draws } : State).responded r .ok (render s.draws results) := by
  cases hunnamed : hasUnnamed results with
  | true => exact ⟨_, inspected_drawn h hbody hunnamed⟩
  | false =>
    obtain ⟨⟨-, -, hup, hsession⟩, rfl, -⟩ := h
    refine ⟨s.draws, ?_⟩
    rw [inspected, performed, hbody]
    exact State.answer_named (s := dequeued s) hup hsession hunnamed

/-! ## Turning away (R168) -/

theorem serve_denied {s : State} {op : Operation} {r : Request} (h : Asked s op r)
    (hright : s.links[r.link].record.rights.has op.right = false) (body : Request → State → State) :
    s.serve op body = s.responded r .denied [] := by
  have hasked := h
  obtain ⟨htaken, hop, -, -⟩ := h
  unfold State.serve
  rw [htaken]
  dsimp only
  rw [hop, Operation.ofCode_code, if_pos rfl, hright]
  exact fail_asked hasked .denied

/-! ## The Fault Unit (R130 to R137, R202) -/

theorem report_raised_marked (s : State) (r : FaultRecord) : (s.report r true).raised = s.raised := by
  rw [State.report_raised]
  rfl

theorem report_raised_new {s : State} {r : FaultRecord} (h : ∀ x ∈ s.raised, x.event ≠ .fault r.kind) :
    (s.report r false).raised =
      s.raised ++ [{ event := .fault r.kind, payload := eventPayload r.link r.target r.detail }] := by
  rw [State.report_raised, if_neg Bool.false_ne_true, State.raiseEvent_raised, if_neg]
  rw [List.any_eq_true]
  rintro ⟨x, hx, heq⟩
  exact h x hx (eq_of_beq heq)

theorem report_raised_replaced {s : State} {r : FaultRecord} (h : ∃ x ∈ s.raised, x.event = .fault r.kind) :
    (s.report r false).raised =
      s.raised.map fun x =>
        if x.event = .fault r.kind then { x with payload := eventPayload r.link r.target r.detail } else x := by
  rw [State.report_raised, if_neg Bool.false_ne_true, State.raiseEvent_raised, if_pos]
  · simp only [beq_iff_eq]
  · obtain ⟨x, hx, heq⟩ := h
    exact List.any_eq_true.2 ⟨x, hx, beq_iff_eq.2 heq⟩

theorem report_asserts (s : State) (r : FaultRecord) (marked : Bool) : (s.report r marked).faultAsserted = true := by
  rw [State.faultAsserted, State.report_faults]
  split
  · simp
  · next hfull =>
    have hne : s.faults ≠ [] := by
      rintro h
      rw [h] at hfull
      exact hfull (by decide)
    simp [hne]

theorem fourFields (a b : Byte) (d : Half) :
    (a ++ b ++ d).extractLsb' 24 8 = a ∧ (a ++ b ++ d).extractLsb' 16 8 = b ∧ (a ++ b ++ d).extractLsb' 0 16 = d := by
  refine ⟨?_, ?_, ?_⟩ <;>
    simp +decide only [BitVec.extractLsb'_append_eq_of_le, BitVec.extractLsb'_append_eq_of_add_le,
      BitVec.extractLsb'_eq_self, Nat.reduceSub, Nat.sub_self]

theorem exec_internalArrival_presents {s : State} (h : s.presented = none) (order : List TargetNo) :
    exec (.internalArrival order) s = .next s.presentRaised := by
  change execInternalArrival order s = _
  simp only [execInternalArrival, h]

/-- The state with the oldest fault records gone and, for clear-lost yes, no fault lost (R137). -/
def faultsCleared (s : State) (n choice : Byte) : State :=
  { s with faults := s.faults.drop n.toNat, lostFaults := if choice = 0x01 then 0 else s.lostFaults }

theorem clearFaults_eq {s : State} {n choice : Byte} (hlow : 1 ≤ n.toNat) (hhigh : n.toNat ≤ 8)
    (hchoice : choice = 0x00 ∨ choice = 0x01) :
    State.clearFaults [n, choice] (dequeued s) =
      (dequeued (faultsCleared s n choice),
        .ok (plain [BitVec.ofNat 8 (s.faults.length - (s.faults.drop n.toNat).length),
          BitVec.ofNat 8 s.lostFaults])) := by
  have hn : ¬ (n.toNat = 0 ∨ 8 < n.toNat) := by omega
  have hcount : min n.toNat s.faults.length = s.faults.length - (s.faults.drop n.toNat).length := by
    rw [List.length_drop]
    omega
  rw [← hcount]
  unfold State.clearFaults
  dsimp only
  rw [if_neg hn]
  rcases hchoice with rfl | rfl <;> rfl

/-- Settles O27: the report by the room of the list and by its mark, the presentation, and CLEAR_FAULTS. -/
theorem faultListTakesAndClears : Obligations.FaultListTakesAndClears := by
  refine ⟨fun s r marked => ?report, fun link target detail => ?payload, fun s order hfree hload => ?present,
    fun s r n choice hgranted hlow hhigh hchoice => ?clear⟩
  case report =>
    intro t w
    refine ⟨fun hroom => ⟨?_, ?_⟩, fun hfull => ⟨?_, ?_⟩, fun hmarked => ?_, fun hmarked hnew => ?_,
      fun hmarked hheld => ?_, report_asserts s r marked, State.report_eq s r marked⟩
    · exact (State.report_faults s r marked).trans (if_pos hroom)
    · exact (State.report_lostFaults s r marked).trans (if_pos hroom)
    · exact (State.report_faults s r marked).trans (if_neg (not_lt.2 hfull))
    · exact (State.report_lostFaults s r marked).trans (if_neg (not_lt.2 hfull))
    · subst hmarked
      exact report_raised_marked s r
    · subst hmarked
      exact report_raised_new hnew
    · subst hmarked
      have hraised : t.raised = _ := report_raised_replaced hheld
      refine ⟨?_, fun x hx => ?_⟩
      · rw [hraised, List.map_map]
        refine List.map_congr_left fun x _ => ?_
        dsimp only [Function.comp]
        split <;> rfl
      · rw [hraised] at hx
        obtain ⟨y, hy, rfl⟩ := List.mem_map.1 hx
        by_cases hkind : y.event = .fault r.kind
        · simp [hkind, w]
        · simp [hkind, hy]
  case payload => exact fourFields _ _ detail
  case present =>
    rw [exec_internalArrival_presents hfree]
    refine ⟨fun hnone => ?_, fun x rest hraised => ⟨?_, fun w hother => ?_⟩⟩
    · simp only [State.presentRaised, hnone]
    · simp only [State.presentRaised, hraised, hload, if_neg Bool.false_ne_true]
    · unfold State.raiseEvent
      rw [if_neg]
      rw [List.any_eq_true]
      rintro ⟨y, hy, heq⟩
      exact hother y hy (eq_of_beq heq)
  case clear =>
    exact (exec_granted 0 hgranted).trans (congrArg Host.Outcome.next
      (performed_ok (b := faultsCleared s n choice) hgranted rfl (clearFaults_eq hlow hhigh hchoice)))

end Sys2Proof.Proofs
end

section
/-! Offers, withdrawals, session ends and the services of a link (2.5, 5.5, 6.2, 6.9, 8.2, 8.3, 8.8): what each does in the
words of Safety.lean. -/

open Sys2Proof Sys2Proof.Machine

namespace Sys2Proof.Proofs

/-! ## The record that is offered (R89, R97) -/

/-- A level lies at or above the service bound of a target: at or above its threshold, or not more urgent than its top
entry (R89). -/
theorem serviceBound_le_iff (g : Target) (l : Level) :
    g.serviceBound ≤ l.val ↔
      g.threshold.val ≤ l.val ∨ ∃ e rest, g.stack = e :: rest ∧ e.level ≤ l := by
  have hl := l.isLt
  unfold Target.serviceBound
  cases hstack : g.stack with
  | nil =>
    have hempty : ¬ ∃ e rest, ([] : List InService) = e :: rest ∧ e.level ≤ l := by
      rintro ⟨e, rest, h, -⟩
      cases h
    rw [or_iff_left hempty, min_le_iff]
    dsimp only
    omega
  | cons e rest =>
    refine min_le_iff.trans (or_congr Iff.rfl ⟨fun h => ⟨e, rest, rfl, h⟩, ?_⟩)
    rintro ⟨e', rest', heq, h⟩
    cases heq
    exact h

theorem eligibleHead_empty {s : State} {t : TargetNo}
    (h : ∀ r ∈ s.records, r.target = t → s.targets[t].serviceBound ≤ r.level.val) : s.eligibleHead t = none := by
  cases hhead : s.eligibleHead t with
  | none => rfl
  | some r =>
    obtain ⟨hr, ht, hlt⟩ := State.eligibleHead_some hhead
    exact absurd hlt (not_lt.2 (h r hr ht))

theorem reexamine_empty {s : State} {t : TargetNo}
    (h : ∀ r ∈ s.records, r.target = t → s.targets[t].serviceBound ≤ r.level.val) : s.reexamine t = s := by
  rcases State.reexamine_cases s t with hsame | ⟨r, -, hhead, -⟩
  · exact hsame
  · rw [eligibleHead_empty h] at hhead
    cases hhead

theorem levelList_head {s : State} {t : TargetNo} {before after : List Record} {r : Record}
    (hrecords : s.records = before ++ r :: after) (ht : r.target = t)
    (holdest : ∀ x ∈ before, x.target = t → x.level ≠ r.level) : (s.levelList t r.level).head? = some r := by
  have hbefore : before.filter (fun x => x.target == t && x.level == r.level) = [] := by
    rw [List.filter_eq_nil_iff]
    intro x hx hkey
    rw [Bool.and_eq_true, beq_iff_eq, beq_iff_eq] at hkey
    exact holdest x hx hkey.1 hkey.2
  rw [State.levelList, hrecords, List.filter_append, hbefore, List.nil_append,
    List.filter_cons_of_pos (by simp [ht])]
  rfl

/-- The search for an eligible head stops at the most urgent level held, with its oldest record. -/
theorem eligibleHead_eq {s : State} {t : TargetNo} {before after : List Record} {r : Record}
    (hrecords : s.records = before ++ r :: after) (ht : r.target = t)
    (hbound : r.level.val < s.targets[t].serviceBound)
    (hurgent : ∀ x ∈ s.records, x.target = t → r.level ≤ x.level)
    (holdest : ∀ x ∈ before, x.target = t → x.level ≠ r.level) : s.eligibleHead t = some r := by
  have hlist := levelList_head hrecords ht holdest
  cases hhead : s.eligibleHead t with
  | none =>
    have hr : r ∈ s.records := by
      rw [hrecords]
      exact List.mem_append_right _ List.mem_cons_self
    exact absurd hbound (not_lt.2 (State.eligibleHead_none hhead hr ht))
  | some x =>
    unfold State.eligibleHead at hhead
    obtain ⟨urgent, level, rest, hlevels, hfound, hnone⟩ := List.findSome?_eq_some_iff.1 hhead
    split at hfound
    · obtain ⟨hx, hxt, hxl⟩ := State.mem_levelList.1 (List.mem_of_head? hfound)
      have hle : r.level ≤ level := hxl ▸ hurgent x hx hxt
      rcases eq_or_lt_of_le hle with heq | hlt
      · rw [← hfound, ← heq, hlist]
      · have hmem : r.level ∈ urgent ++ level :: rest := hlevels ▸ List.mem_finRange r.level
        have hsorted : (urgent ++ level :: rest).Pairwise (· < ·) := hlevels ▸ List.pairwise_lt_finRange 8
        rcases List.mem_append.1 hmem with hin | hin
        · have hskip := hnone r.level hin
          rw [if_pos hbound, hlist] at hskip
          cases hskip
        · rcases List.mem_cons.1 hin with heq | hin
          · exact absurd hlt (heq ▸ lt_irrefl _)
          · have hafter := (List.pairwise_cons.1 (List.pairwise_append.1 hsorted).2.1).1 r.level hin
            exact absurd hlt (lt_asymm hafter)
    · cases hfound

/-- The record of a slot is the only one that a change of the slot touches. -/
theorem changeRecord_around {s : State} (hs : SlotsSound s) {before after : List Record} {r : Record}
    (hrecords : s.records = before ++ r :: after) (f : Record → Record) :
    s.changeRecord r.slot f = { s with records := before ++ f r :: after } := by
  have haround := records_around hs hrecords
  have hrest (rs : List Record) (h : ∀ x ∈ rs, x ∈ before ++ after) :
      rs.map (fun x => if x.slot = r.slot then f x else x) = rs :=
    (List.map_congr_left fun x hx => if_neg (haround x (h x hx))).trans (List.map_id _)
  unfold State.changeRecord State.setRecords
  rw [hrecords, List.map_append, List.map_cons, if_pos rfl, hrest before fun x hx => List.mem_append_left _ hx,
    hrest after fun x hx => List.mem_append_right _ hx]

theorem makeOffer_eq {s : State} (hs : SlotsSound s) {t : TargetNo} (hup : s.isUp (targetLink t) = true)
    {before after : List Record} {r : Record} (hrecords : s.records = before ++ r :: after) :
    s.makeOffer t r =
      (({ s with
          records :=
            before ++ { r with offer := some { tag := s.targets[t].tagCounter, void := false } } ::
              after } : State).withTarget t
        { s.targets[t] with
          state := .offered
          offer := some { tag := s.targets[t].tagCounter, slot := r.slot }
          tagCounter := s.targets[t].tagCounter + 1
          claimTimer := some s.timers[t].claimTimeout
          retriesLeft := some s.timers[t].retries }).queued (targetLink t)
        (.offer (r.offerFrame s.targets[t].tagCounter)) := by
  unfold State.makeOffer
  dsimp only
  rw [changeRecord_around hs hrecords]
  exact State.post_up _ hup

theorem notify_asleep {s : State} {t : TargetNo} (hstate : s.targets[t].state = .asleep) (level : Level) :
    s.notify t level = if level ≤ s.targets[t].wakeLevel then s.sendWake t level else s := by
  rw [State.notify, if_pos hstate]

theorem notify_awake {s : State} {t : TargetNo} (hstate : s.targets[t].state ≠ .asleep) (level : Level) :
    s.notify t level = s.reexamine t := by
  rw [State.notify, if_neg hstate]

/-- Settles O28: the eligible head is the oldest record of the most urgent level, and a placement is a re-examination
or a wake. -/
theorem offerIsMostUrgentOldest : Obligations.OfferIsMostUrgentOldest := by
  refine ⟨fun s t hstate => State.reexamine_not_ready hstate, fun s t hnone => ?none,
    fun s t before after r hready hup hslots hrecords ht hthreshold htop hurgent holdest => ?offer,
    fun s t level hstate => notify_awake hstate level, fun s t level hstate hup => ?wake⟩
  case none => exact reexamine_empty fun r hr ht => (serviceBound_le_iff _ _).2 (hnone r hr ht)
  case offer =>
    have hbound : r.level.val < s.targets[t].serviceBound := by
      rw [← not_le, serviceBound_le_iff, not_or, not_le]
      refine ⟨hthreshold, ?_⟩
      rintro ⟨e, rest, hstack, hle⟩
      exact absurd (htop e rest hstack) (not_lt.2 hle)
    rw [State.reexamine, if_pos hready, eligibleHead_eq hrecords ht hbound hurgent holdest]
    exact makeOffer_eq hslots hup hrecords
  case wake => rw [notify_asleep hstate, sendWake_up hup]

/-! ## Withdrawal (R34) -/

/-- The records of a record's key, itself apart, that are not under offer. -/
def SameKey (r x : Record) : Prop :=
  x.slot ≠ r.slot ∧ x.target = r.target ∧ x.index = r.index ∧ x.mode = r.mode ∧ x.offer = none

theorem twin_absent {s : State} {r : Record} (h : r.mode = .queue ∨ ∀ x ∈ s.records, ¬ SameKey r x) :
    s.twin r = none := by
  cases htwin : s.twin r with
  | none => rfl
  | some w =>
    obtain ⟨hw, hslot, htarget, hindex, hmode, hoffer, hqueue⟩ := twin_some htwin
    exact absurd ⟨hslot, htarget, hindex, hmode, hoffer⟩ ((h.resolve_left hqueue) w hw)

theorem twin_present {s : State} {r w : Record} (hmode : r.mode ≠ .queue) (hw : w ∈ s.records) (hkey : SameKey r w)
    (honly : ∀ x ∈ s.records, SameKey r x → x = w) : s.twin r = some w := by
  cases htwin : s.twin r with
  | some x =>
    obtain ⟨hx, hslot, htarget, hindex, hm, hoffer, -⟩ := twin_some htwin
    rw [honly x hx ⟨hslot, htarget, hindex, hm, hoffer⟩]
  | none =>
    obtain ⟨hslot, htarget, hindex, hm, hoffer⟩ := hkey
    unfold State.twin at htwin
    rw [if_neg hmode] at htwin
    exact absurd (by simp [hslot, htarget, hindex, hm, hoffer]) (List.find?_eq_none.1 htwin w hw)

/-- While its target is in OFFERED, the fold of a twin into a withdrawn record is reported to no effect. -/
theorem withdraw_merging {s : State} {r w : Record} (hoffered : s.targets[r.target].state = .offered)
    (htwin : s.twin r = some w) :
    s.withdraw r = ((unmarked s r).freeRecord w.slot).foldInto r (w.count.getD 0) w.payload w.origin := by
  unfold State.withdraw
  rw [htwin]
  dsimp only
  rw [State.notify_inert]
  · rfl
  all_goals
    rw [foldInto_targets]
    exact fun h => TargetState.noConfusion (hoffered.symm.trans h)

theorem withdraw_alone {s : State} {r : Record} (htwin : s.twin r = none) : s.withdraw r = unmarked s r := by
  unfold State.withdraw
  rw [htwin]
  rfl

/-- A withdrawn record with its twin merged into it (R34). -/
def mergedRecord (r w : Record) : Record :=
  if r.mode = .count then
    { r with offer := none, origin := w.origin, count := some (min 15 (r.count.getD 0 + w.count.getD 0)) }
  else { r with offer := none, origin := w.origin, payload := w.payload }

theorem fold_unmarked (r w : Record) :
    ({ r with offer := none } : Record).fold (w.count.getD 0) w.payload w.origin = mergedRecord r w := by
  unfold Record.fold mergedRecord
  split <;> rfl

/-- The pool after a withdrawal with a twin: one record fewer, and the withdrawn one merged. -/
theorem merged_records {s : State} (hs : SlotsSound s) {r w : Record} (hr : r ∈ s.records) (hne : w.slot ≠ r.slot) :
    merged s r w =
      { s with
        records := (s.records.filter fun x => x.slot ≠ w.slot).map fun x =>
          if x.slot = r.slot then mergedRecord r w else x } := by
  refine congrArg s.setRecords ?_
  unfold unmarked State.changeRecord State.freeRecord State.setRecords
  dsimp only
  rw [List.filter_map, List.map_map]
  have hkeep : ∀ x : Record, ((fun y : Record => y.slot != w.slot) ∘ fun y =>
      if y.slot = r.slot then { y with offer := none } else y) x = decide (x.slot ≠ w.slot) := by
    intro x
    rw [Bool.eq_iff_iff, Function.comp, bne_iff_ne, decide_eq_true_iff]
    split <;> rfl
  rw [List.filter_congr fun x _ => hkeep x]
  refine List.map_congr_left fun x hx => ?_
  have hxs : x ∈ s.records := (List.mem_filter.1 hx).1
  dsimp only [Function.comp]
  by_cases hslot : x.slot = r.slot
  · obtain rfl := record_unique hs hxs hr hslot
    simp only [↓reduceIte, fold_unmarked]
  · simp only [if_neg hslot]

theorem unmarked_eq {s : State} (hs : SlotsSound s) {r : Record} (hr : r ∈ s.records) :
    unmarked s r =
      { s with records := s.records.map fun x => if x.slot = r.slot then { r with offer := none } else x } := by
  refine congrArg s.setRecords (List.map_congr_left fun x hx => ?_)
  by_cases hslot : x.slot = r.slot
  · rw [if_pos hslot, if_pos hslot, record_unique hs hx hr hslot]
  · rw [if_neg hslot, if_neg hslot]

/-- A fold with counts lost is reported, and one without is not (R29, R34). -/
theorem foldInto_eq (s : State) (r : Record) (n : Nat) (p : List Word) (o : Origin) :
    s.foldInto r n p o =
      if r.mode = .count ∧ 15 < r.count.getD 0 + n then
        (s.changeRecord r.slot fun x => x.fold n p o).report
          (saturation r.target r.index o (r.count.getD 0 + n - 15)) o.isInternal
      else s.changeRecord r.slot fun x => x.fold n p o := by
  unfold State.foldInto
  dsimp only
  by_cases hmode : r.mode = .count
  · have hcounts : r.lostCounts n = r.count.getD 0 + n - 15 := if_pos hmode
    rw [hcounts]
    by_cases hlost : 15 < r.count.getD 0 + n
    · rw [if_neg (by omega), if_pos ⟨hmode, hlost⟩]
    · rw [if_pos (by omega), if_neg fun h => hlost h.2]
  · have hcounts : r.lostCounts n = 0 := if_neg hmode
    rw [hcounts, if_pos rfl, if_neg fun h => hmode h.1]

/-- Settles O29: without a twin the record is unmarked alone, and with one the fold of the twin is its merge. -/
theorem withdrawalMergesTwin : Obligations.WithdrawalMergesTwin := by
  intro s r hs hr hoffered sameKey
  refine ⟨fun hnone => ?alone, fun w hw hmode hkey honly => ?merged⟩
  case alone => rw [withdraw_alone (twin_absent hnone), unmarked_eq hs hr]
  case merged =>
    intro sum merged b
    have hmerged : Proofs.merged s r w = b := merged_records hs hr hkey.1
    rw [withdraw_merging hoffered (twin_present hmode hw hkey honly), foldInto_eq, ← hmerged]
    rfl

/-! ## Session ends (R91, R121, R123, R147) -/

theorem sessionCleared_eq (s : State) (l : LinkNo) :
    sessionCleared s l =
      { s.withLink l { s.links[l] with ingress := [], transmit := [], grant := 4 } with
        queue := s.queue.filter fun r => r.link ≠ l } := by
  unfold sessionCleared
  rw [List.filter_congr fun r _ => ?_]
  rw [Bool.eq_iff_iff, bne_iff_ne, decide_eq_true_iff]

theorem linkTarget_none {l : LinkNo} (h : l.val < 12) : linkTarget l = none := by
  rw [← Option.not_isSome_iff_eq_none, linkTarget_isSome]
  simp [h]

/-- The end of a session with no target frame in progress clears it at once. -/
theorem sessionEnd_quiet {s : State} {t : TargetNo} (h : s.targetFrame t = none) :
    s.sessionEnd (targetLink t) = (sessionCleared s (targetLink t)).targetSessionEnd t := by
  rw [State.sessionEnd_target, State.takeInProgress, h]
  exact clearSession_target s t

/-- What the rest of the buffer holds does not matter to a session end with no target frame in progress. -/
theorem sessionEnd_emptied (s : State) (t : TargetNo) :
    (s.withLink (targetLink t) { s.links[targetLink t] with ingress := [] }).sessionEnd (targetLink t) =
      s.clearSession (targetLink t) := by
  have hempty : (s.withLink (targetLink t) { s.links[targetLink t] with ingress := [] }).targetFrame t = none :=
    State.targetFrame_empty (by rw [State.withLink_self])
  rw [State.sessionEnd_target, State.takeInProgress, hempty]
  exact State.clearSession_withLink s (targetLink t) []

theorem currentOffer_eq {s : State} (hs : SlotsSound s) {t : TargetNo} {r : Record} {m : OfferMark} (hr : r ∈ s.records)
    (hmark : r.offer = some m) (hstate : s.targets[t].state = .offered)
    (hoffer : s.targets[t].offer = some { tag := m.tag, slot := r.slot }) :
    s.currentOffer t = some ({ tag := m.tag, slot := r.slot }, r, m) := by
  simp only [State.currentOffer, if_pos hstate, hoffer, State.recordAt_of_mem hs hr, hmark, Option.map_some]

theorem endOffer_current {s : State} {t : TargetNo} {o : Offer} {r : Record} {m : OfferMark}
    (hoffer : s.currentOffer t = some (o, r, m)) :
    s.endOffer t = if m.void then s.freeRecord r.slot else s.withdraw r := by
  simp only [State.endOffer, hoffer]

theorem endOffer_idle {s : State} {t : TargetNo} (h : s.targets[t].state ≠ .offered) : s.endOffer t = s := by
  simp only [State.endOffer, State.currentOffer_none h]

/-- The reports of an emptied stack do not disturb the end of the target's session. -/
theorem reportSome_withTarget (s : State) (t : TargetNo) (g : Target) (r : Option FaultRecord) :
    reportSome (s.withTarget t g) r = (reportSome s r).withTarget t g := by
  cases r with
  | none => rfl
  | some r => exact report_withTarget s t g r false

/-- Settles O30: the frame in progress is taken by its own command, and what remains is cleared. -/
theorem sessionEndClearsLink : Obligations.SessionEndClearsLink := by
  intro s l cleared
  refine ⟨fun hsource => ?source, fun g f hl hframe => ?frame, fun g hl hstate hquiet hs b hb => ?target⟩
  case source =>
    rw [State.sessionEnd_source s (linkTarget_none hsource), clearSession_source (linkTarget_none hsource),
      sessionCleared_eq]
  case frame =>
    subst hl
    rcases State.takeInProgress_cases s g with ⟨hnone, -⟩ | ⟨f', c, hframe', hcommand, hexec⟩
    · rw [hnone] at hframe
      cases hframe
    · obtain rfl := Option.some.inj (hframe.symm.trans hframe')
      refine ⟨c, s.takeInProgress g, hcommand, hexec, ?_⟩
      rw [sessionEnd_emptied, State.sessionEnd_target]
  case target =>
    subst hl
    have hcleared : sessionCleared s (targetLink g) = cleared := sessionCleared_eq s (targetLink g)
    have hend : cleared.endOffer g = b := by
      rcases hb with ⟨hidle, rfl⟩ | ⟨r, hr, m, -, hmark, hoffered, hoffer, rfl⟩
      · exact endOffer_idle hidle
      · rw [endOffer_current (currentOffer_eq (s := cleared) hs hr hmark hoffered hoffer), freeRecord_eq]
        rfl
    rw [sessionEnd_quiet hquiet, hcleared, targetSessionEnd_eq (s := cleared) hstate, hend, reportSome_withTarget]
    have hstack : cleared.targets[g].stack = s.targets[g].stack := rfl
    rw [hstack]
    cases s.targets[g].stack with
    | nil => rfl
    | cons top rest =>
      dsimp only [abandonReport, reportSome]
      rw [linkFault, linkTarget_targetLink]
      rfl

/-! ## The services of a link (R143, R152, R153, R158 to R160) -/

theorem call_wire (l : LinkNo) (grant : Byte) : (OutFrame.hello (linkRole l) .call).wire grant = callOf l := by
  unfold OutFrame.wire callOf linkRole
  by_cases h : l.val < 12 <;> simp [h, OutFrame.kind, OutFrame.body, FrameKind.code, Role.code, Mark.code]

/-- Only the body of a CREDIT frame depends on the grant count (R152). -/
theorem body_eq (f : OutFrame) (grant : Byte) : f.body grant = if f = .credit then [grant] else f.body 0 := by
  cases f with
  | credit => rfl
  | hello | nack | response | offer | wake | void | err => rw [if_neg OutFrame.noConfusion]; rfl

theorem wire_eq (f : OutFrame) (grant : Byte) :
    f.wire grant =
      { kind := f.kind.code
        body := if f = .credit then [grant] else f.body 0
        check := frameCheck f.kind.code (if f = .credit then [grant] else f.body 0) } := by
  rw [OutFrame.wire, body_eq]

theorem modLink_placeCredit (s : State) (l : LinkNo) :
    s.modLink l Link.placeCredit =
      if s.links[l].transmit.any fun q => q.frame == .credit then s else s.queued l .credit := by
  rw [State.modLink_eq, Link.placeCredit]
  split
  · exact State.withLink_same s l
  · rfl

theorem resetLinkNow_up {s : State} {l : LinkNo} (h : s.links[l].state = .up) :
    s.resetLinkNow l = (s.sessionEnd l).withLink l ((s.sessionEnd l).links[l].calling l) := by
  simp only [State.resetLinkNow, h, State.modLink_eq, Link.enterTraining_eq]

theorem resetLinkNow_waiting {s : State} {l : LinkNo}
    (h : s.links[l].state = .training ∨ s.links[l].state = .faulted) :
    s.resetLinkNow l = s.withLink l (s.links[l].calling l) := by
  rcases h with h | h <;> simp only [State.resetLinkNow, h, State.modLink_eq, Link.enterTraining_eq]

/-- The link once the first frame of its list, of which `rest` remains, has left. -/
def frameSent (k : Link) (f : OutFrame) (rest : List Queued) : Link :=
  { k with transmit := rest, sent := k.sent ++ [f.wire k.grant] }

theorem exec_frameTransmit {s : State} {l : LinkNo} (hup : s.links[l].state = .up) {f : OutFrame} {reset : Bool}
    {rest : List Queued} (hlist : s.links[l].transmit = { frame := f, thenReset := reset } :: rest) :
    exec (.frameTransmit l) s =
      .next (if reset then (s.withLink l (frameSent s.links[l] f rest)).resetLinkNow l
        else s.withLink l (frameSent s.links[l] f rest)) := by
  change execFrameTransmit l s = _
  simp only [execFrameTransmit, if_pos (isUp_iff.2 hup), hlist]
  rfl

/-- Settles O31: the timers, the refresh and the sending of the first frame, each by its command's test. -/
theorem linkServices : Obligations.LinkServices := by
  intro s l
  refine ⟨fun hstate htimer => ?training, fun hstate htimer => ?quiet, fun hup => ?credit, fun hup hempty => ?empty,
    fun f reset rest hup hlist => ?sent, fun hdown => ?down⟩
  case training =>
    change execTrainingTimerExpiry l s = _
    rw [execTrainingTimerExpiry, if_pos ⟨hstate, htimer⟩, State.modLink_eq, Link.emit, call_wire, ← htimer]
  case quiet =>
    change execQuietTimerExpiry l s = _
    rw [execQuietTimerExpiry, if_pos ⟨hstate, htimer⟩]
    split
    · rw [State.modLink_eq, Link.enterTraining_eq]
    · rfl
  case credit =>
    change execCreditRefresh l s = _
    rw [execCreditRefresh, if_pos (isUp_iff.2 hup), modLink_placeCredit]
  case empty =>
    change execFrameTransmit l s = _
    simp only [execFrameTransmit, if_pos (isUp_iff.2 hup), hempty]
  case sent =>
    intro b
    have hb : s.withLink l (frameSent s.links[l] f rest) = b := by
      unfold frameSent
      rw [wire_eq]
    have hbup : b.links[l].state = .up := by
      rw [← hb, State.withLink_self]
      exact hup
    rw [exec_frameTransmit hup hlist, hb, resetLinkNow_up hbup]
  case down =>
    have hnot : ¬ s.isUp l = true := fun h => hdown (isUp_iff.1 h)
    exact ⟨if_neg hnot, if_neg hnot⟩

end Sys2Proof.Proofs
end

section
/-! Reset, image load and SAVE (chapter 10): the reset state, what FULL_RESET and the load without an image leave, and
a SAVE with its end. -/

open Sys2Proof Sys2Proof.Machine

namespace Sys2Proof.Proofs

/-- Settles O1: the step takes the front of the queue by its definition. -/
theorem stepRunsFrontCommand : Obligations.StepRunsFrontCommand := fun _ _ _ => rfl

/-! ## The reset state -/

theorem freeCount_of_empty {s : State} (h : s.records = []) : s.freeCount = 384 := by
  have hslots : SlotsSound s := by
    unfold SlotsSound
    rw [h]
    exact List.nodup_nil
  have hcount := State.freeCount_add_records hslots
  rw [h] at hcount
  exact hcount

theorem reset_linksSound : LinksSound State.reset := by
  refine ⟨fun l => ?_, fun g => ?_, fun n p hp => ?_⟩
  · simp [State.reset, LinkSound, Link.reset, Config.startGrant]
  · simp [State.reset, Target.reset, State.isUp, Link.reset]
  · simp [State.reset] at hp

theorem reset_deliverySound : DeliverySound State.reset := by
  refine ⟨List.nodup_nil, fun t => ?_⟩
  have htarget : State.reset.targets[t] = Target.reset := Vector.getElem_replicate t.isLt
  refine ⟨?_, ?_, ?_⟩
  · unfold OfferSound
    rw [htarget]
    exact ⟨rfl, rfl⟩
  · unfold StackSound
    rw [htarget]
    exact ⟨List.Pairwise.nil, fun r hr => by cases hr⟩
  · unfold TimersSound
    rw [htarget]
    simp [Target.reset]

theorem reset_maskSound : MaskSound State.reset := by
  refine ⟨fun i hi => ?_, fun _ => ⟨fun i => Vector.getElem_replicate i.isLt, rfl⟩, fun u hu => ?_,
    fun c hc => ?_⟩
  rotate_left
  · cases hu
  · cases hc
  rw [show State.reset.latches[i] = none from Vector.getElem_replicate i.isLt] at hi
  cases hi

theorem erased_image : Slot.erased.image = none := image_of_check_none rfl

theorem reset_storeSound : ImageStoreSound State.reset := by
  refine ⟨fun k => ?_, fun run hrun => by cases hrun⟩
  rw [show State.reset.summary[k] = none from Vector.getElem_replicate k.isLt,
    show State.reset.slots[k] = Slot.erased from Vector.getElem_replicate k.isLt, erased_image]
  rfl

theorem reset_link (l : LinkNo) : State.reset.links[l] = Link.reset (LinkRecord.start l) 0 [] :=
  Vector.getElem_ofFn l.isLt

theorem reset_tablesSound : TablesSound State.reset := by
  obtain ⟨hbank, hrecords, htimers⟩ := imageLegal_start
  refine ⟨hbank, hbank, fun l => ?_, htimers⟩
  rw [reset_link]
  exact (congrArg LinkRecord.legal (Vector.getElem_ofFn l.isLt).symm).trans (hrecords l)

/-- With no record in the pool, nothing is to be said of one. -/
theorem reset_no_record {C : Record → Prop} : ∀ r ∈ State.reset.records, C r := by
  intro r hr
  cases hr

theorem reset_recordsSound : RecordsSound State.reset := by
  refine ⟨reset_no_record, fun l f hf => ?_, fun n p hp => ?_⟩
  · rw [reset_link] at hf
    cases hf
  · rw [show State.reset.arriving[n] = none from Vector.getElem_replicate n.isLt] at hp
    cases hp

theorem reset_queueSound : QueueSound State.reset := by
  refine ⟨Nat.zero_le _, fun _ => Nat.zero_le _, fun _ => rfl, fun r hr => ?_⟩
  cases hr

theorem reset_framesSound : FramesSound State.reset := by
  intro l q hq
  rw [reset_link] at hq
  cases hq

/-- Settles O10: the reset state holds no record, no request and no fault, and every link is DOWN. -/
theorem resetIsSound : Obligations.ResetIsSound :=
  ⟨⟨Nat.zero_le _, Nat.zero_le _, List.nodup_nil, fun _ => rfl⟩, reset_tablesSound, reset_maskSound, reset_queueSound,
    reset_linksSound, reset_deliverySound, reset_no_record, reset_recordsSound, reset_no_record,
    ⟨fun _ => ⟨rfl, rfl⟩, fun _ => rfl, Iff.rfl⟩, reset_storeSound, reset_framesSound⟩

/-! ## FULL_RESET (R19, R195) -/

/-- Settles O6: each field is set by the reset, and the slot of a running SAVE is left erased. -/
theorem fullResetLeaves : Obligations.FullResetLeaves := by
  intro s
  refine ⟨_, rfl, rfl, rfl, rfl, rfl, rfl, freeCount_of_empty rfl, fun i => ?_, fun g => ?_, fun n => ?_, rfl, rfl, rfl,
    rfl, rfl, fun l => ?_, rfl, rfl, rfl, rfl, fun k hk => ?_, fun run hrun => ?_⟩
  · exact ⟨Vector.getElem_replicate i.isLt, Vector.getElem_replicate i.isLt, Vector.getElem_replicate i.isLt⟩
  · simp [Target.reset]
  · exact Vector.getElem_replicate n.isLt
  · simp [Link.reset, Config.startGrant]
  · refine (slotsAfterReset_get s k).trans (if_neg ?_)
    rintro ⟨run, hrun, hslot⟩
    exact hk run hrun hslot
  · refine (congrArg Slot.image ((slotsAfterReset_get s run.slot).trans (if_pos ⟨run, hrun, rfl⟩))).trans erased_image

/-! ## The load without an image (R20, R187) -/

/-- A report to a Fault Unit that holds nothing. -/
theorem report_empty {s : State} (hfaults : s.faults = []) (hraised : s.raised = []) (r : FaultRecord) :
    s.report r false =
      { s with
        faults := [r]
        raised := [{ event := .fault r.kind, payload := eventPayload r.link r.target r.detail }] } := by
  rw [State.report_eq, State.report_faults, State.report_lostFaults, report_raised_new, hfaults, hraised]
  · rfl
  · rw [hraised]
    intro x hx
    cases hx

theorem startRecord (l : LinkNo) : Image.start.records[l] = LinkRecord.start l :=
  Vector.getElem_ofFn l.isLt

theorem exec_imageLoad_empty {s : State} (hload : s.loading = true) (hinvalid : ∀ k : ImageSlot, s.slots[k].image = none)
    (hfaults : s.faults = []) (hraised : s.raised = []) :
    exec .imageLoad s =
      .next { imageLoaded s Image.start none with
        faults := [noImageFault]
        raised := [{ event := .fault .noImage, payload := 0xFFFF0000 }] } := by
  have hchosen : chooseImage s.slots[0].image s.slots[1].image = none := by
    rw [show s.slots[0].image = none from hinvalid 0, show s.slots[1].image = none from hinvalid 1]
    rfl
  refine (exec_imageLoad_none hload hchosen).trans (congrArg Host.Outcome.next ?_)
  exact report_empty (s := imageLoaded s Image.start none) hfaults hraised noImageFault

theorem rights_start (l : LinkNo) :
    (LinkRecord.start l).rights =
      if l = 12 then { read := true, write := true, commit := true, control := true }
      else { read := false, write := false, commit := false, control := false } := rfl

/-- Settles O7: the load hands over the start values and reports NO_IMAGE. -/
theorem loadWithoutImage : Obligations.LoadWithoutImage := by
  intro s hload hinvalid hfaults hraised
  refine ⟨_, exec_imageLoad_empty hload hinvalid hfaults hraised, rfl, rfl, fun b hb => ?banks, fun i => ?mask,
    fun l => ?links, fun g => ?timers, rfl, rfl, rfl, rfl, fun k => ?summary, rfl⟩
  case banks =>
    have hstart : b = Bank.start := by simpa [imageLoaded, State.loadImage, Image.start] using hb
    rw [hstart]
    exact ⟨fun i => Vector.getElem_replicate i.isLt, fun n => Vector.getElem_replicate n.isLt⟩
  case mask => exact Vector.getElem_replicate i.isLt
  case links =>
    have hlink : (imageLoaded s Image.start none).links[l] = { s.links[l].calling l with record := LinkRecord.start l } := by
      rw [← startRecord]
      exact loadImage_link { s with summary := slotTests s } Image.start l
    dsimp only
    rw [hlink]
    exact ⟨rfl, rfl, rfl, rfl⟩
  case timers => exact Vector.getElem_replicate g.isLt
  case summary => exact (slotTests_get s k).trans (by rw [hinvalid k]; rfl)

/-! ## SAVE (R188 to R192) -/

theorem generationsSpent_iff (s : State) :
    s.generationsSpent = true ↔ ∃ k : ImageSlot, s.summary[k] = some 0xFFFFFFFF := by
  rw [State.generationsSpent, Bool.or_eq_true, beq_iff_eq, beq_iff_eq, Fin.exists_fin_two]
  rfl

/-- The tests of SAVE before that of the generations all pass. -/
theorem takeSave_eq {s : State} {r : Request} (h : r.operands = []) (hfrozen : s.frozen = false)
    (hcopy : s.copyState = .idle) (hsaving : s.saving = none) :
    State.takeSave r s = if s.generationsSpent then s.answer r (.fail .badValue) false else s.startSave r := by
  unfold State.takeSave
  rw [h]
  dsimp only
  rw [hfrozen, hcopy, hsaving]
  rfl

/-- The chosen generation is above that of every valid slot (R189). -/
theorem chooseSave_newer {summary : Vector (Option Word) 2} (hlast : ∀ k : ImageSlot, summary[k] ≠ some 0xFFFFFFFF)
    {j : ImageSlot} {g : Word} (h : summary[j] = some g) : g < (chooseSave summary).1 := by
  have hbound {k : ImageSlot} {g : Word} (hk : summary[k] = some g) : g ≠ 0xFFFFFFFF := by
    rintro rfl
    exact hlast k hk
  unfold chooseSave
  match j with
  | 0 =>
    have h0 : summary[0] = some g := h
    have hg := hbound h
    rw [h0]
    cases h1 : summary[1] with
    | none =>
      dsimp only
      bv_omega
    | some g1 =>
      have hg1 := hbound (k := 1) h1
      dsimp only
      split <;> bv_omega
  | 1 =>
    have h1 : summary[1] = some g := h
    have hg := hbound h
    rw [h1]
    cases h0 : summary[0] with
    | none =>
      dsimp only
      bv_omega
    | some g0 =>
      have hg0 := hbound (k := 0) h0
      dsimp only
      split <;> bv_omega

theorem newestSlot_generation {s : State} {j : ImageSlot} (h : s.newestSlot = some j) :
    ∃ g, s.summary[j] = some g ∧ (chooseSave s.summary).1 = g + 1 := by
  obtain ⟨g, hg, hchoice⟩ := chooseSave_of_newest h
  exact ⟨g, hg, congrArg Prod.fst hchoice⟩

theorem newestSlot_none {s : State} (h : s.newestSlot = none) : chooseSave s.summary = (1, 0) := by
  have hnewest := chooseSave_newest s
  rw [h] at hnewest
  exact hnewest

theorem execSaveEnd_done {s : State} {run : SaveRun} (hrun : s.saving = some run) {contents : Option SlotContents}
    {check : Option Word} (hcontents : contents.getD (run.snapshot.contents run.generation) =
      run.snapshot.contents run.generation)
    (hcheck : check.getD (slotCheck (slotBytes (run.snapshot.contents run.generation))) =
      slotCheck (slotBytes (run.snapshot.contents run.generation))) :
    exec (.saveEnd contents check) s =
      .next (s.saveDone run (run.snapshot.contents run.generation)
        (slotCheck (slotBytes (run.snapshot.contents run.generation)))) := by
  change execSaveEnd contents check s = _
  unfold execSaveEnd
  rw [hrun]
  dsimp only
  rw [if_pos hcontents, if_pos hcheck]

theorem execSaveEnd_failed {s : State} {run : SaveRun} (hrun : s.saving = some run) {contents : Option SlotContents}
    {check : Option Word} (h : ¬ (contents.getD (run.snapshot.contents run.generation) =
        run.snapshot.contents run.generation ∧
      check.getD (slotCheck (slotBytes (run.snapshot.contents run.generation))) =
        slotCheck (slotBytes (run.snapshot.contents run.generation)))) :
    ∃ read, exec (.saveEnd contents check) s = .next (s.saveFailed run read) := by
  change ∃ read, execSaveEnd contents check s = _
  unfold execSaveEnd
  rw [hrun]
  dsimp only
  split
  · next hcontents =>
    rw [if_neg fun hcheck => h ⟨hcontents, hcheck⟩]
    exact ⟨_, rfl⟩
  · exact ⟨_, rfl⟩

theorem getD_iff {α : Type} {o : Option α} {a : α} : o.getD a = a ↔ o = none ∨ o = some a := by
  cases o <;> simp

theorem noticePayload (k : ImageSlot) :
    eventPayload none none (BitVec.ofNat 16 k) = 0xFFFF0000 + BitVec.ofNat 32 k.val := by
  revert k
  decide

theorem answerSave_eq {s : State} {r : SaveRecord} (h : s.saveRecord = some r) (status : Status) (results : List Byte) :
    s.answerSave status results =
      ({ s with saveRecord := none } : State).answeredIn r.link r.session
        (.response r.sequence status results) := by
  unfold State.answerSave
  rw [h]
  exact State.handOver_eq_answeredIn ..

/-- Settles O60: the choice of slot and generation, and the two ends of a SAVE. -/
theorem saveWritesTheOtherSlot : Obligations.SaveWritesTheOtherSlot := by
  refine ⟨fun s r hgranted hfrozen hcopy hsaving => ?start, fun s run r contents check hrun hrecord => ?finish⟩
  case start =>
    have hasked := hgranted.1
    have htake : exec .saveTables s = .next (if (dequeued s).generationsSpent then
        (dequeued s).answer r (.fail .badValue) false else (dequeued s).startSave r) :=
      (exec_granted 0 hgranted).trans
        (congrArg Host.Outcome.next (takeSave_eq (s := dequeued s) hgranted.2.1 hfrozen hcopy hsaving))
    refine ⟨fun hspent => ?_, fun hleft => ?_⟩
    · rw [htake, if_pos ((generationsSpent_iff (dequeued s)).2 hspent), fail_asked hasked]
    · have hnot : ¬ (dequeued s).generationsSpent = true := by
        rintro hspent
        obtain ⟨k, hk⟩ := (generationsSpent_iff s).1 hspent
        exact hleft k hk
      rw [htake, if_neg hnot]
      refine ⟨(chooseSave s.summary).2, (chooseSave s.summary).1, s.snapshot,
        fun h => chooseSave_ne_newest h rfl, fun h => ?_, fun j hj => newestSlot_generation hj, rfl, rfl, fun l => ?_,
        rfl, rfl⟩
      · rw [newestSlot_none h]
        exact ⟨rfl, rfl⟩
      · exact Vector.getElem_map ..
  case finish =>
    intro written good
    have hgood : good ↔ contents.getD written = written ∧
        check.getD (slotCheck (slotBytes written)) = slotCheck (slotBytes written) :=
      and_congr getD_iff.symm getD_iff.symm
    refine ⟨fun h => ?_, fun h => ?_⟩
    · obtain ⟨hcontents, hcheck⟩ := hgood.1 h
      rw [execSaveEnd_done hrun hcontents hcheck, State.saveDone, answerSave_eq (r := r)]
      · rw [State.notice, noticePayload]
      · exact hrecord
    · obtain ⟨read, hexec⟩ := execSaveEnd_failed hrun fun hd => h (hgood.2 hd)
      refine ⟨Slot.written read none, rfl, ?_⟩
      rw [hexec, State.saveFailed, answerSave_eq (r := r)]
      exact hrecord

/-! ## A SAVE and the load after it (R184 to R192) -/

theorem saveDone_store (s : State) (run : SaveRun) (contents : SlotContents) (check : Word) :
    (s.saveDone run contents check).slots = s.slots.set run.slot (Slot.written contents (some check)) ∧
      (s.saveDone run contents check).saving = none := by
  unfold State.saveDone State.notice State.answerSave
  dsimp only
  rw [State.raiseEvent_slots, State.raiseEvent_saving]
  split
  · rw [State.handOver_slots, State.handOver_saving]
    exact ⟨rfl, rfl⟩
  · exact ⟨rfl, rfl⟩

/-- The SAVE that a granted request starts in the state `s`. -/
def savedRun (s : State) : SaveRun :=
  { snapshot := s.snapshot, slot := (chooseSave s.summary).2, generation := (chooseSave s.summary).1 }

/-- The contents of the slot that the SAVE writes. -/
def savedContents (s : State) : SlotContents :=
  s.snapshot.contents (chooseSave s.summary).1

/-- The state after the SAVE and its end. -/
def savedState (s : State) (r : Request) : State :=
  ((dequeued s).startSave r).saveDone (savedRun s) (savedContents s) (slotCheck (slotBytes (savedContents s)))

theorem savedState_slot (s : State) (r : Request) (j : ImageSlot) :
    (savedState s r).slots[j] =
      if j = (chooseSave s.summary).2 then
        Slot.written (savedContents s) (some (slotCheck (slotBytes (savedContents s))))
      else s.slots[j] := by
  obtain ⟨hslots, -⟩ := saveDone_store ((dequeued s).startSave r) (savedRun s) (savedContents s)
    (slotCheck (slotBytes (savedContents s)))
  rw [savedState, hslots, vector_set_get]
  by_cases hj : j = (chooseSave s.summary).2
  · exact (if_pos hj).trans (if_pos hj).symm
  · have hother : ((dequeued s).startSave r).slots[j] = s.slots[j] :=
      (vector_set_get s.slots (chooseSave s.summary).2 j Slot.erased).trans (if_neg hj)
    rw [if_neg hj, ← hother]
    exact if_neg hj

/-- The load after the SAVE chooses the slot it wrote: its generation is above that of every valid slot. -/
theorem chooseImage_saved {s : State} (htables : TablesSound s) (hstore : ImageStoreSound s)
    (hleft : ∀ k : ImageSlot, s.summary[k] ≠ some 0xFFFFFFFF) {r : Request} {slots : Vector Slot 2}
    (hslots : ∀ j : ImageSlot, slots[j] = (savedState s r).slots[j]) :
    chooseImage slots[0].image slots[1].image = some ((chooseSave s.summary).2, (chooseSave s.summary).1, s.snapshot) := by
  refine chooseImage_of_newest (slots := fun j => slots[j].image) ?_ fun j g im hj hother => .inl ?_
  · rw [hslots, savedState_slot, if_pos rfl]
    exact written_image _ (snapshot_legal htables)
  · rw [hslots, savedState_slot, if_neg hj] at hother
    refine chooseSave_newer hleft (j := j) ?_
    rw [hstore.1 j, hother]
    rfl

theorem exec_fullReset_store (s : State) :
    ∃ t, exec .fullReset s = .next t ∧ t.loading = true ∧ t.slots = s.slotsAfterReset :=
  ⟨_, rfl, rfl, rfl⟩

/-- Settles O9: the slot that the SAVE wrote is the one the load chooses, and it holds the snapshot. -/
theorem saveThenLoadRestores : Obligations.SaveThenLoadRestores := by
  intro s r hgranted hfrozen hcopy hsaving htables hstore hleft
  have hnot : ¬ (dequeued s).generationsSpent = true := by
    intro hspent
    obtain ⟨k, hk⟩ := (generationsSpent_iff (dequeued s)).1 hspent
    exact hleft k hk
  have hstart : exec .saveTables s = .next ((dequeued s).startSave r) :=
    (exec_granted 0 hgranted).trans (congrArg Host.Outcome.next
      ((takeSave_eq (s := dequeued s) hgranted.2.1 hfrozen hcopy hsaving).trans (if_neg hnot)))
  have hfinish : exec (.saveEnd none none) ((dequeued s).startSave r) = .next (savedState s r) :=
    execSaveEnd_done (run := savedRun s) rfl (Option.getD_none ..) (Option.getD_none ..)
  obtain ⟨c, hreset, hloading, hcslots⟩ := exec_fullReset_store (savedState s r)
  have hslots (j : ImageSlot) : c.slots[j] = (savedState s r).slots[j] := by
    rw [hcslots, slotsAfterReset_get, if_neg]
    rintro ⟨run, hrun, -⟩
    rw [savedState, (saveDone_store ..).2] at hrun
    cases hrun
  refine ⟨_, _, c, _, hstart, hfinish, hreset,
    exec_imageLoad_chosen hloading (chooseImage_saved htables hstore hleft hslots),
    rfl, rfl, rfl, rfl, fun l => ?_, rfl, _, _, rfl, fun j g hj => chooseSave_newer hleft hj⟩
  exact (congrArg Link.record (loadImage_link { c with summary := slotTests c } s.snapshot l)).trans
    (Vector.getElem_map ..)

end Sys2Proof.Proofs
end

section
/-! Requests that are turned away (R7, R168, R200): the tests of each operation's operands, in order, and the bars of
freeze, copy phase and SAVE. -/

open Sys2Proof Sys2Proof.Machine

namespace Sys2Proof.Proofs

/-! ## Operand lengths (R200) -/

theorem readEntryCodes_some {bs : List Byte} {codes : List Word} (h : readEntryCodes bs = some codes) :
    bs.length = 4 * codes.length := by
  induction bs using readEntryCodes.induct generalizing codes with
  | case1 =>
    cases h
    rfl
  | case2 a b c d rest ih =>
    rw [readEntryCodes] at h
    obtain ⟨es, hes, rfl⟩ := Option.map_eq_some_iff.1 h
    simp only [List.length_cons, ih hes]
    omega
  | case3 bs hnil hcons =>
    rw [readEntryCodes] at h
    · cases h
    · exact hnil
    · exact hcons

theorem writeEntry_badLength {operands : List Byte} (h : Operation.writeEntry.fits operands.length = false) (s : State) :
    State.writeEntry operands s = (s, .fail .badLength) := by
  unfold State.writeEntry
  split
  · next hi lo rest =>
    split
    · next codes hcodes =>
      rw [if_pos]
      have hlength := readEntryCodes_some hcodes
      simp only [Operation.fits, List.length_cons, Bool.or_eq_false_iff, beq_eq_false_iff_ne] at h
      omega
    · rfl
  · rfl

/-- Every operation but WRITE_ENTRY reads its operands by their number alone. -/
theorem operationBody_badLength {op : Operation} {r : Request} (h : op.fits r.operands.length = false) (pace : Nat)
    (t : State) : operationBody pace op r t = t.answer r (.fail .badLength) false := by
  obtain ⟨link, session, sequence, operation, operands⟩ := r
  cases op
  case writeEntry =>
    exact congrArg (fun x : State × Reply => x.1.answer _ x.2 false) (writeEntry_badLength h t)
  all_goals
    simp only [operationBody, inspected, performed, State.readStatus, State.readLink, State.setLink, State.readTarget,
      State.resetLink, State.startRestart, State.freeze, State.writeWindow, State.readEntry, State.readWindow,
      State.commit, State.cancel, State.readPending, State.startMask, State.startUnmask, State.readMask,
      State.readFaults, State.clearFaults, State.takeSave]
    split
    · cases h
    · rfl

theorem badLength_responded {s : State} {op : Operation} {r : Request} {operands : List Byte}
    (h : Granted s op r operands) (hfits : op.fits operands.length = false) (pace : Nat) :
    operationBody pace op r (dequeued s) = s.responded r .badLength [] := by
  obtain ⟨hasked, rfl, -⟩ := h
  rw [operationBody_badLength hfits, fail_asked hasked]

/-! ## Indexes and values beyond their ranges -/

theorem linkRecord_none {rights limit auto : Byte} (h : limit.toNat = 0 ∨ 15 < limit.toNat ∨ 1 < auto.toNat) :
    LinkRecord.ofCode (rights ++ limit ++ auto) = none := by
  cases hr : LinkRecord.ofCode (rights ++ limit ++ auto) with
  | none => rfl
  | some x =>
    obtain ⟨-, hlimit, hauto⟩ := threeBytes_fields rights limit auto
    obtain ⟨hlegal, -, hx, hyes⟩ := (LinkRecord.ofCode_iff _ x).1 hr
    rw [hlimit] at hx
    rw [hauto] at hyes
    have hne : x.errorLimit ≠ 0 := by simpa [LinkRecord.legal] using hlegal
    have hpos : x.errorLimit.val ≠ 0 := fun h0 => hne (Fin.ext h0)
    have hone : auto.toNat ≤ 1 := by
      rw [hyes]
      cases x.autoRetrain <;> decide
    have := x.errorLimit.isLt
    omega

theorem timerRecord_none {timeout retries hold : Byte}
    (h : timeout.toNat = 0 ∨ 7 < retries.toNat ∨ hold.toNat = 0) :
    TimerRecord.ofCode (timeout ++ retries ++ hold) = none := by
  cases hx : TimerRecord.ofCode (timeout ++ retries ++ hold) with
  | none => rfl
  | some x =>
    obtain ⟨htimeout, hretries, hhold⟩ := threeBytes_fields timeout retries hold
    obtain ⟨hlegal, ht, hr, hh⟩ := (TimerRecord.ofCode_iff _ x).1 hx
    rw [htimeout] at ht
    rw [hretries] at hr
    rw [hhold] at hh
    simp only [TimerRecord.legal, Bool.and_eq_true, bne_iff_ne, ← ht, ← hh] at hlegal
    obtain ⟨htime, hho⟩ := hlegal
    have htime' : timeout.toNat ≠ 0 := fun h0 => htime (BitVec.eq_of_toNat_eq h0)
    have hho' : hold.toNat ≠ 0 := fun h0 => hho (BitVec.eq_of_toNat_eq h0)
    have := x.retries.isLt
    omega

theorem linkTarget_isSome_of_le {l : LinkNo} (h : 12 ≤ l.val) : (linkTarget l).isSome = true := by
  rw [linkTarget_isSome]
  simp [h]

theorem part_none {b : Byte} (h : 3 ≤ b.toNat) : Part.ofCode b = none := by
  unfold Part.ofCode
  rw [if_neg, if_neg, if_neg]
  all_goals
    rintro rfl
    exact absurd h (by decide)

theorem selector_none {b : Byte} (h : 1 < b.toNat) : Selector.ofCode b = none := by
  unfold Selector.ofCode
  rw [if_neg, if_neg]
  all_goals
    rintro rfl
    exact absurd h (by decide)

theorem readYesNo_none {b : Byte} (h : 1 < b.toNat) : readYesNo b = none := by
  unfold readYesNo
  rw [if_neg, if_neg]
  all_goals
    rintro rfl
    exact absurd h (by decide)

theorem readRange_none {first last : Half} (h : 512 ≤ first.toNat ∨ 512 ≤ last.toNat ∨ last < first) :
    readRange first last = none := by
  cases hr : readRange first last with
  | none => rfl
  | some range =>
    unfold readRange at hr
    split at hr
    · next f l hf hl =>
      have hf' := inRange_some hf
      have hl' := inRange_some hl
      have := f.isLt
      have := l.isLt
      split at hr
      · next hle =>
        rw [Fin.le_def] at hle
        rw [BitVec.lt_def] at h
        omega
      · cases hr
    · cases hr

/-- The staging bank is not busy unless it is selected in a copy phase. -/
theorem stagingBusy_false {s : State} {b : Byte} (h : ¬ (b = 0x01 ∧ s.copyState = .copying)) :
    s.stagingBusy (Selector.ofCode b) = false := by
  unfold State.stagingBusy
  rw [Bool.and_eq_false_iff, beq_eq_false_iff_ne, beq_eq_false_iff_ne]
  by_cases hb : b = 0x01
  · exact .inr fun hcopy => h ⟨hb, hcopy⟩
  · refine .inl ?_
    unfold Selector.ofCode
    rw [if_neg hb]
    split <;> decide

theorem readEntry_badValue {s : State} {selector hi lo count : Byte}
    (hbusy : s.stagingBusy (Selector.ofCode selector) = false)
    (hindex : ¬ (512 ≤ (hi ++ lo : Half).toNat ∨ 512 < (hi ++ lo : Half).toNat + count.toNat))
    (h : 1 < selector.toNat ∨ count.toNat = 0 ∨ 4 < count.toNat) :
    State.readEntry [selector, hi, lo, count] s = .fail .badValue := by
  unfold State.readEntry
  dsimp only
  rw [hbusy, if_neg Bool.false_ne_true, if_neg hindex]
  by_cases hcount : count.toNat = 0 ∨ 4 < count.toNat
  · rw [if_pos hcount]
  · rw [if_neg hcount, selector_none (h.resolve_right hcount)]
    rfl

theorem readLink_badIndex {s : State} {l : Byte} (h : 16 ≤ l.toNat) : State.readLink [l] s = .fail .badIndex := by
  unfold State.readLink
  dsimp only
  rw [inRange_none h]

theorem readTarget_badIndex {s : State} {t : Byte} (h : 4 ≤ t.toNat) (part : Byte) :
    State.readTarget [t, part] s = .fail .badIndex := by
  unfold State.readTarget
  dsimp only
  rw [inRange_none h]

theorem setLink_badValue {s : State} (hfrozen : s.frozen = false) {link rights limit auto timeout retries hold : Byte}
    (hlink : link.toNat < 16)
    (h : (limit.toNat = 0 ∨ 15 < limit.toNat ∨ 1 < auto.toNat) ∨
      12 ≤ link.toNat ∧ (timeout.toNat = 0 ∨ 7 < retries.toNat ∨ hold.toNat = 0)) :
    State.setLink [link, rights, limit, auto, timeout, retries, hold] s = (s, .fail .badValue) := by
  unfold State.setLink
  dsimp only
  rw [hfrozen, if_neg Bool.false_ne_true, inRange_val (v := ⟨link.toNat, hlink⟩) rfl]
  dsimp only
  split
  · rfl
  · next record hrecord =>
    obtain ⟨htarget, htimer⟩ := h.resolve_left fun hbad => by
      rw [linkRecord_none hbad] at hrecord
      cases hrecord
    rw [timerRecord_none htimer, linkTarget_isSome_of_le (l := ⟨link.toNat, hlink⟩) htarget]
    rfl

theorem resetLink_badIndex {s : State} {r : Request} {l : Byte} (hoperands : r.operands = [l]) (h : 16 ≤ l.toNat) :
    State.resetLink r s = s.answer r (.fail .badIndex) false := by
  unfold State.resetLink
  rw [hoperands]
  dsimp only
  rw [inRange_none h]

theorem startMask_badIndex {s : State} {r : Request} {a b c d : Byte} (hoperands : r.operands = [a, b, c, d])
    (h : 512 ≤ (a ++ b : Half).toNat ∨ 512 ≤ (c ++ d : Half).toNat ∨ (c ++ d : Half) < a ++ b) :
    State.startMask r s = s.answer r (.fail .badIndex) false := by
  unfold State.startMask
  rw [hoperands]
  dsimp only
  rw [readRange_none h]

theorem startUnmask_badIndex {s : State} {r : Request} {a b c d : Byte} (pace : Nat)
    (hoperands : r.operands = [a, b, c, d])
    (h : 512 ≤ (a ++ b : Half).toNat ∨ 512 ≤ (c ++ d : Half).toNat ∨ (c ++ d : Half) < a ++ b) :
    State.startUnmask pace r s = s.answer r (.fail .badIndex) false := by
  unfold State.startUnmask
  rw [hoperands]
  dsimp only
  rw [readRange_none h]

theorem readWindow_badIndex {s : State} {selector n : Byte} (hbusy : s.stagingBusy (Selector.ofCode selector) = false)
    (h : 13 ≤ n.toNat) : State.readWindow [selector, n] s = .fail .badIndex := by
  unfold State.readWindow
  dsimp only
  rw [hbusy, if_neg Bool.false_ne_true, inRange_none h]

theorem readWindow_badValue {s : State} {selector n : Byte} (hbusy : s.stagingBusy (Selector.ofCode selector) = false)
    (hn : n.toNat < 13) (h : 1 < selector.toNat) : State.readWindow [selector, n] s = .fail .badValue := by
  unfold State.readWindow
  dsimp only
  rw [hbusy, if_neg Bool.false_ne_true, inRange_val (v := ⟨n.toNat, hn⟩) rfl, selector_none h]
  rfl

theorem readPending_badIndex {s : State} {t level : Byte} (h : 4 ≤ t.toNat ∨ 8 ≤ level.toNat) (hi lo count : Byte) :
    State.readPending [t, level, hi, lo, count] s = .fail .badIndex := by
  unfold State.readPending
  dsimp only
  split
  · next x y hx hy =>
    have hxv := inRange_some hx
    have hyv := inRange_some hy
    have := x.isLt
    have := y.isLt
    omega
  · rfl

theorem readPending_badValue {s : State} {t level hi lo count : Byte} (ht : t.toNat < 4) (hl : level.toNat < 8)
    (h : 384 ≤ (hi ++ lo : Half).toNat ∨ count.toNat = 0 ∨ 4 < count.toNat) :
    State.readPending [t, level, hi, lo, count] s = .fail .badValue := by
  unfold State.readPending
  dsimp only
  rw [inRange_val (v := ⟨t.toNat, ht⟩) rfl, inRange_val (v := ⟨level.toNat, hl⟩) rfl]
  exact if_pos h

theorem readTarget_badValue {s : State} {t part : Byte} (ht : t.toNat < 4) (h : 3 ≤ part.toNat) :
    State.readTarget [t, part] s = .fail .badValue := by
  unfold State.readTarget
  dsimp only
  rw [inRange_val (v := ⟨t.toNat, ht⟩) rfl, part_none h]

theorem setLink_badIndex {s : State} (hfrozen : s.frozen = false) {link : Byte} (h : 16 ≤ link.toNat)
    (rights limit auto timeout retries hold : Byte) :
    State.setLink [link, rights, limit, auto, timeout, retries, hold] s = (s, .fail .badIndex) := by
  unfold State.setLink
  dsimp only
  rw [hfrozen, if_neg Bool.false_ne_true, inRange_none h]

theorem clearFaults_badValue {s : State} {n choice : Byte} (h : n.toNat = 0 ∨ 8 < n.toNat ∨ 1 < choice.toNat) :
    State.clearFaults [n, choice] s = (s, .fail .badValue) := by
  unfold State.clearFaults
  dsimp only
  split
  · rfl
  · next hn => rw [readYesNo_none (by omega)]

/-- The tests of the operands in the order of their operation. -/
theorem badOperands_responded {s : State} {op : Operation} {r : Request} {operands : List Byte}
    (hg : Granted s op r operands) {status : Status} (h : s.badOperands op operands = some status) (pace : Nat) :
    operationBody pace op r (dequeued s) = s.responded r status [] := by
  have hasked := hg.1
  have hoperands := hg.2.1
  unfold State.badOperands at h
  split at h
  case h_1 l =>
    obtain ⟨hl, heq⟩ := Option.ite_none_right_eq_some.1 h
    cases heq
    exact inspected_fail hg (readLink_badIndex hl)
  case h_2 l =>
    obtain ⟨hl, heq⟩ := Option.ite_none_right_eq_some.1 h
    cases heq
    exact (resetLink_badIndex hoperands hl).trans (fail_asked hasked _)
  case h_3 l rights limit auto timeout retries hold =>
    obtain ⟨hfrozen, h⟩ := Option.ite_none_left_eq_some.1 h
    have hfrozen' : (dequeued s).frozen = false := by simpa [dequeued] using hfrozen
    split at h
    · next hl =>
      cases h
      exact performed_fail hg (setLink_badIndex hfrozen' hl ..)
    · next hl =>
      split at h
      · next hrecord =>
        cases h
        exact performed_fail hg (setLink_badValue hfrozen' (not_le.1 hl) (.inl hrecord))
      · obtain ⟨htimer, heq⟩ := Option.ite_none_right_eq_some.1 h
        cases heq
        exact performed_fail hg (setLink_badValue hfrozen' (not_le.1 hl) (.inr htimer))
  case h_4 t part =>
    split at h
    · next ht =>
      cases h
      exact inspected_fail hg (readTarget_badIndex ht part)
    · next ht =>
      obtain ⟨hpart, heq⟩ := Option.ite_none_right_eq_some.1 h
      cases heq
      exact inspected_fail hg (readTarget_badValue (not_le.1 ht) hpart)
  case h_5 selector hi lo count =>
    obtain ⟨hbusy, h⟩ := Option.ite_none_left_eq_some.1 h
    have hbusy' := stagingBusy_false (s := dequeued s) hbusy
    split at h
    · next hindex =>
      cases h
      refine inspected_fail hg ?_
      unfold State.readEntry
      dsimp only
      rw [hbusy', if_neg Bool.false_ne_true, if_pos hindex]
    · next hindex =>
      obtain ⟨hvalue, heq⟩ := Option.ite_none_right_eq_some.1 h
      cases heq
      exact inspected_fail hg (readEntry_badValue hbusy' hindex hvalue)
  case h_6 selector n =>
    obtain ⟨hbusy, h⟩ := Option.ite_none_left_eq_some.1 h
    have hbusy' := stagingBusy_false (s := dequeued s) hbusy
    split at h
    · next hn =>
      cases h
      exact inspected_fail hg (readWindow_badIndex hbusy' hn)
    · next hn =>
      obtain ⟨hvalue, heq⟩ := Option.ite_none_right_eq_some.1 h
      cases heq
      exact inspected_fail hg (readWindow_badValue hbusy' (not_le.1 hn) hvalue)
  case h_7 t level hi lo count =>
    split at h
    · next hindex =>
      cases h
      exact inspected_fail hg (readPending_badIndex hindex ..)
    · next hindex =>
      obtain ⟨hvalue, heq⟩ := Option.ite_none_right_eq_some.1 h
      cases heq
      rw [not_or, not_le, not_le] at hindex
      exact inspected_fail hg (readPending_badValue hindex.1 hindex.2 hvalue)
  case h_8 a b c d =>
    obtain ⟨hrange, heq⟩ := Option.ite_none_right_eq_some.1 h
    cases heq
    exact (startMask_badIndex hoperands hrange).trans (fail_asked hasked _)
  case h_9 a b c d =>
    obtain ⟨hrange, heq⟩ := Option.ite_none_right_eq_some.1 h
    cases heq
    exact (startUnmask_badIndex pace hoperands hrange).trans (fail_asked hasked _)
  case h_10 hi lo count =>
    refine inspected_fail hg ?_
    unfold State.readMask
    dsimp only
    split at h
    · next hcount =>
      cases h
      rw [if_pos hcount]
    · next hcount =>
      obtain ⟨hindex, heq⟩ := Option.ite_none_right_eq_some.1 h
      cases heq
      rw [if_neg hcount, if_pos hindex]
  case h_11 start count =>
    obtain ⟨hvalue, heq⟩ := Option.ite_none_right_eq_some.1 h
    cases heq
    exact inspected_fail hg (if_pos hvalue)
  case h_12 n choice =>
    obtain ⟨hvalue, heq⟩ := Option.ite_none_right_eq_some.1 h
    cases heq
    exact performed_fail hg (clearFaults_badValue hvalue)
  case h_13 => cases h

theorem ofCode_none {c : Byte} (h : ∀ op : Operation, op.code ≠ c) : Operation.ofCode c = none := by
  cases hop : Operation.ofCode c with
  | none => rfl
  | some op => exact absurd (Operation.ofCode_some hop).symm (h op)

/-- Settles O49: the right, the code, the length, and then the tests of the operands. -/
theorem requestsAreTurnedAway : Obligations.RequestsAreTurnedAway := by
  refine ⟨fun op pace s r hasked hright => ?denied, fun s r hnext hcode hup hsession => ?unknown,
    fun op pace s r operands hgranted => ?operands⟩
  case denied => rw [exec_command pace hasked.1, serve_denied hasked hright]
  case unknown =>
    change execUnknownOp s = _
    unfold execUnknownOp
    rw [hnext]
    dsimp only
    rw [ofCode_none hcode]
    exact congrArg Host.Outcome.next (State.answer_named (s := dequeued s) (reply := .fail .unknownOp) hup hsession rfl)
  case operands =>
    rw [exec_granted pace hgranted]
    exact ⟨fun hfits => congrArg Host.Outcome.next (badLength_responded hgranted hfits pace),
      fun status hstatus => congrArg Host.Outcome.next (badOperands_responded hgranted hstatus pace)⟩

end Sys2Proof.Proofs
end

section
/-! The table requests (1.5 to 1.7): what freeze, copy phase and SAVE bar (R7, R17, R193), the writes of the staging
bank (R8, R9) and the exchange of the banks (R13 to R15). -/

open Sys2Proof Sys2Proof.Machine

namespace Sys2Proof.Proofs

/-! ## Operands of a length that fits -/

theorem readEntryCodes_flatMap (codes : List Word) : readEntryCodes (codes.flatMap (bytesOf 4)) = some codes := by
  induction codes with
  | nil => rfl
  | cons c rest ih =>
    have hbytes : (c :: rest).flatMap (bytesOf 4) = c.extractLsb' 24 8 :: c.extractLsb' 16 8 :: c.extractLsb' 8 8 ::
        c.extractLsb' 0 8 :: rest.flatMap (bytesOf 4) := rfl
    rw [hbytes, readEntryCodes, ih, Option.map_some, word_of_bytes]

theorem exists_readEntryCodes : ∀ {n : Nat} {bs : List Byte}, bs.length = 4 * n →
    ∃ codes, readEntryCodes bs = some codes ∧ codes.length = n
  | 0, [], _ => ⟨[], rfl, rfl⟩
  | n + 1, a :: b :: c :: d :: rest, h => by
    obtain ⟨codes, hcodes, hlength⟩ := exists_readEntryCodes (n := n) (bs := rest)
      (by simp only [List.length_cons] at h; omega)
    exact ⟨(a ++ b ++ c ++ d) :: codes, by rw [readEntryCodes, hcodes]; rfl, congrArg (· + 1) hlength⟩

theorem writeEntry_operands {operands : List Byte} (h : Operation.writeEntry.fits operands.length = true) :
    ∃ hi lo rest codes, operands = hi :: lo :: rest ∧ readEntryCodes rest = some codes ∧
      ¬ (codes.length = 0 ∨ 4 < codes.length) := by
  simp only [Operation.fits, Bool.or_eq_true, beq_iff_eq] at h
  match operands with
  | hi :: lo :: rest =>
    simp only [List.length_cons] at h
    obtain ⟨codes, hcodes, hlength⟩ := exists_readEntryCodes (n := rest.length / 4) (bs := rest) (by omega)
    exact ⟨hi, lo, rest, codes, rfl, hcodes, by omega⟩
  | [] | [_] =>
    simp at h

/-! ## What freeze, copy phase and SAVE bar -/

theorem writeEntry_barred {operands : List Byte} {s : State} {status : Status}
    (hfits : Operation.writeEntry.fits operands.length = true) (h : s.tableBarred = some status) :
    State.writeEntry operands s = (s, .fail status) := by
  obtain ⟨hi, lo, rest, codes, rfl, hcodes, hcount⟩ := writeEntry_operands hfits
  simp only [State.writeEntry, hcodes, if_neg hcount, h]

theorem writeWindow_barred {operands : List Byte} {s : State} {status : Status}
    (hfits : Operation.writeWindow.fits operands.length = true) (h : s.tableBarred = some status) :
    State.writeWindow operands s = (s, .fail status) := by
  obtain ⟨a, b, c, rfl⟩ := List.length_eq_three.1 (beq_iff_eq.1 hfits)
  simp only [State.writeWindow, h]

theorem commit_barred {operands : List Byte} {s : State} {status : Status}
    (hfits : Operation.commit.fits operands.length = true) (h : s.tableBarred = some status) :
    State.commit operands s = (s, .fail status) := by
  obtain ⟨a, rfl⟩ := List.length_eq_one_iff.1 (beq_iff_eq.1 hfits)
  simp only [State.commit, h]

theorem commit_saving {operands : List Byte} {s : State} (hfits : Operation.commit.fits operands.length = true)
    (h : s.tableBarred = none) (hsaving : s.saving.isSome = true) : State.commit operands s = (s, .fail .busy) := by
  obtain ⟨a, rfl⟩ := List.length_eq_one_iff.1 (beq_iff_eq.1 hfits)
  simp only [State.commit, h, if_pos hsaving]

theorem setLink_frozen {operands : List Byte} {s : State} (hfits : Operation.setLink.fits operands.length = true)
    (h : s.frozen = true) : State.setLink operands s = (s, .fail .frozen) := by
  have hlength : operands.length = 7 := beq_iff_eq.1 hfits
  match operands with
  | [_, _, _, _, _, _, _] => simp only [State.setLink, if_pos h]

theorem takeSave_tested {s : State} {r : Request} (hfits : Operation.save.fits r.operands.length = true)
    {status : Status} (h : s.tableBarred = some status ∨ s.tableBarred = none ∧ s.saving.isSome = true ∧ status = .busy) :
    State.takeSave r s = s.answer r (.fail status) false := by
  have hnil : r.operands = [] := List.eq_nil_of_length_eq_zero (beq_iff_eq.1 hfits)
  unfold State.takeSave
  rw [hnil]
  dsimp only
  unfold State.tableBarred at h
  by_cases hfrozen : s.frozen = true
  · simp only [if_pos hfrozen, Option.some.injEq, reduceCtorEq, false_and, or_false] at h ⊢
    rw [h]
  by_cases hcopy : s.copyState = .copying
  · simp only [if_neg hfrozen, if_pos hcopy, Option.some.injEq, reduceCtorEq, false_and, or_false] at h ⊢
    rw [h]
  · simp only [if_neg hfrozen, if_neg hcopy, reduceCtorEq, false_or, true_and] at h ⊢
    rw [if_pos h.1, h.2]

theorem tableBarred_frozen {s : State} (h : s.frozen = true) : s.tableBarred = some .frozen := if_pos h

theorem tableBarred_copying {s : State} (hfrozen : s.frozen = false) (h : s.copyState = .copying) :
    s.tableBarred = some .busy := by
  rw [State.tableBarred, hfrozen, if_neg Bool.false_ne_true, if_pos h]

theorem tableBarred_free {s : State} (hfrozen : s.frozen = false) (h : s.copyState = .idle) : s.tableBarred = none := by
  rw [State.tableBarred, hfrozen, if_neg Bool.false_ne_true, h, if_neg (by decide)]

/-- The requests that the table tests bar (R7, R188). -/
theorem tableBarred_responded {s : State} {op : Operation} {r : Request} {operands : List Byte}
    (hg : Granted s op r operands) (hfits : op.fits operands.length = true)
    (hop : op ∈ [Operation.writeEntry, .writeWindow, .commit, .save]) {status : Status}
    (h : s.tableBarred = some status) (pace : Nat) :
    operationBody pace op r (dequeued s) = s.responded r status [] := by
  simp only [List.mem_cons, List.not_mem_nil, or_false] at hop
  rcases hop with rfl | rfl | rfl | rfl
  · exact performed_fail hg (writeEntry_barred hfits h)
  · exact performed_fail hg (writeWindow_barred hfits h)
  · exact performed_fail hg (commit_barred hfits h)
  · obtain ⟨hasked, rfl, -⟩ := hg
    exact (takeSave_tested (s := dequeued s) hfits (.inl h)).trans (fail_asked hasked _)

theorem stagingRead_responded {s : State} {op : Operation} {r : Request} {operands : List Byte}
    (hg : Granted s op r operands) (hfits : op.fits operands.length = true)
    (hop : op ∈ [Operation.readEntry, .readWindow]) (hselector : operands.head? = some 0x01)
    (hcopy : s.copyState = .copying) (pace : Nat) :
    operationBody pace op r (dequeued s) = s.responded r .busy [] := by
  have hbusy : (dequeued s).stagingBusy (Selector.ofCode 0x01) = true := by
    unfold State.stagingBusy
    rw [show (dequeued s).copyState = .copying from hcopy]
    decide
  simp only [List.mem_cons, List.not_mem_nil, or_false] at hop
  rcases hop with rfl | rfl
  · have hlength : operands.length = 4 := beq_iff_eq.1 hfits
    match operands with
    | [_, _, _, _] =>
      cases hselector
      exact inspected_fail hg (if_pos hbusy)
  · obtain ⟨a, b, rfl⟩ := List.length_eq_two.1 (beq_iff_eq.1 hfits)
    cases hselector
    exact inspected_fail hg (if_pos hbusy)

/-- Settles O50: FREEZE, the table tests, the reads of the staging bank and the test of a running SAVE. -/
theorem freezeAndBusyBarRequests : Obligations.FreezeAndBusyBarRequests := by
  intro op pace s r operands hg hfits
  rw [exec_granted pace hg]
  refine ⟨?freeze, fun hop hfrozen => ?frozen, fun hop hfrozen hcopy => ?copying, fun hop hselector hcopy => ?reads,
    fun hop hfrozen hcopy hsaving => ?saving⟩
  case freeze =>
    rintro rfl
    have hnil : operands = [] := List.eq_nil_of_length_eq_zero (beq_iff_eq.1 hfits)
    subst hnil
    rw [show exec .freeze s = _ from exec_granted 0 hg]
    have htest : (decide (s.copyState = .copying) || s.saving.isSome) = true ↔
        s.copyState = .copying ∨ s.saving.isSome = true := by simp
    by_cases hbusy : s.copyState = .copying ∨ s.saving.isSome = true
    · rw [if_pos hbusy]
      exact congrArg Host.Outcome.next (performed_fail hg (if_pos (htest.2 hbusy)))
    · rw [if_neg hbusy]
      exact congrArg Host.Outcome.next (performed_ok (b := { s with frozen := true }) (results := []) hg rfl
        (if_neg (hbusy ∘ htest.1)))
  case frozen =>
    by_cases hlink : op = .setLink
    · subst hlink
      exact congrArg Host.Outcome.next (performed_fail hg (setLink_frozen hfits hfrozen))
    · refine congrArg Host.Outcome.next (tableBarred_responded hg hfits ?_ (tableBarred_frozen hfrozen) pace)
      simp only [List.mem_cons, List.not_mem_nil, or_false, hlink, false_or] at hop ⊢
      exact hop
  case copying =>
    exact congrArg Host.Outcome.next (tableBarred_responded hg hfits hop (tableBarred_copying hfrozen hcopy) pace)
  case reads => exact congrArg Host.Outcome.next (stagingRead_responded hg hfits hop hselector hcopy pace)
  case saving =>
    have hfree : (dequeued s).tableBarred = none := tableBarred_free (s := dequeued s) hfrozen hcopy
    simp only [List.mem_cons, List.not_mem_nil, or_false] at hop
    rcases hop with rfl | rfl
    · exact congrArg Host.Outcome.next (performed_fail hg (commit_saving hfits hfree hsaving))
    · obtain ⟨hasked, rfl, -⟩ := hg
      exact congrArg Host.Outcome.next
        ((takeSave_tested (s := dequeued s) hfits (.inr ⟨hfree, hsaving, rfl⟩)).trans (fail_asked hasked _))

/-! ## Writing the staging bank (R8, R9) -/

theorem legalEntries_iff {codes : List Word} {es : List Entry} :
    legalEntries codes = some es ↔ codes.map Entry.ofCode = es.map some := by
  induction codes generalizing es with
  | nil => cases es <;> simp [legalEntries]
  | cons c rest ih =>
    cases es with
    | nil =>
      rw [legalEntries]
      split <;> simp
    | cons e es =>
      rw [List.map_cons, List.map_cons, List.cons.injEq, ← ih, legalEntries]
      cases Entry.ofCode c <;> cases legalEntries rest <;> simp

theorem legalEntries_none {codes : List Word} (h : ∃ c ∈ codes, Entry.ofCode c = none) : legalEntries codes = none := by
  cases hes : legalEntries codes with
  | none => rfl
  | some es =>
    obtain ⟨c, hc, hnone⟩ := h
    have hmem := List.mem_map_of_mem (f := Entry.ofCode) hc
    rw [legalEntries_iff.1 hes, hnone] at hmem
    simp at hmem

theorem exists_legalEntries {codes : List Word} (h : ∀ c ∈ codes, (Entry.ofCode c).isSome = true) :
    ∃ es, legalEntries codes = some es := by
  induction codes with
  | nil => exact ⟨[], rfl⟩
  | cons c rest ih =>
    obtain ⟨e, he⟩ := Option.isSome_iff_exists.1 (h c List.mem_cons_self)
    obtain ⟨es, hes⟩ := ih fun c hc => h c (List.mem_cons_of_mem _ hc)
    exact ⟨e :: es, by rw [legalEntries, he, hes]⟩

theorem legalEntries_length {codes : List Word} {es : List Entry} (h : legalEntries codes = some es) :
    es.length = codes.length := by
  simpa using (congrArg List.length (legalEntries_iff.1 h)).symm

theorem legalEntries_get {codes : List Word} {es : List Entry} (h : legalEntries codes = some es) (k : Nat) :
    (codes[k]?).bind Entry.ofCode = es[k]? := by
  have hmaps := congrArg (·[k]?) (legalEntries_iff.1 h)
  simp only [List.getElem?_map] at hmaps
  cases hc : codes[k]? with
  | none =>
    rw [hc, Option.map_none, eq_comm, Option.map_eq_none_iff] at hmaps
    rw [hmaps, Option.bind_none]
  | some c =>
    rw [hc, Option.map_some, eq_comm, Option.map_eq_some_iff] at hmaps
    obtain ⟨e, he, hread⟩ := hmaps
    rw [he, Option.bind_some, ← hread]

theorem writeEntries_get {es : List Entry} {b : Vector Entry 512} {first : Nat} (h : first + es.length ≤ 512)
    (i : Index) :
    some (writeEntries b first es)[i] =
      if first ≤ i.val ∧ i.val < first + es.length then es[i.val - first]? else some b[i] := by
  induction es generalizing b first with
  | nil => rw [if_neg (by simp only [List.length_nil]; omega), writeEntries]
  | cons e rest ih =>
    rw [List.length_cons] at h ⊢
    have hfirst : first < 512 := by omega
    rw [writeEntries, dif_pos hfirst, ih (by omega)]
    rcases lt_trichotomy i.val first with hlow | heq | hhigh
    · rw [if_neg (by omega), if_neg (by omega)]
      exact congrArg some (Vector.getElem_set_ne _ _ (by omega))
    · rw [if_neg (by omega), if_pos (by omega), show i.val - first = 0 by omega, List.getElem?_cons_zero]
      subst heq
      exact congrArg some (Vector.getElem_set_self _)
    · have hsub : i.val - first = (i.val - (first + 1)) + 1 := by omega
      rw [hsub, List.getElem?_cons_succ]
      by_cases hin : i.val < first + 1 + rest.length
      · rw [if_pos (by omega), if_pos (by omega)]
      · rw [if_neg (by omega), if_neg (by omega)]
        exact congrArg some (Vector.getElem_set_ne _ _ (by omega))

theorem other_code (n : BankName) : n.other.code = if n = .a then 0x01 else 0x00 := by cases n <;> rfl

theorem setBank_links (s : State) (n : BankName) (b : Bank) : (s.setBank n b).links = s.links := by cases n <;> rfl

theorem setBank_dequeued (s : State) (n : BankName) (b : Bank) :
    (dequeued s).setBank n b = dequeued (s.setBank n b) := by cases n <;> rfl

theorem writeEntry_operands_eq {first : Half} {codes : List Word} (hlow : 1 ≤ codes.length) (hhigh : codes.length ≤ 4)
    {s : State} (hfree : s.tableBarred = none) :
    State.writeEntry (bytesOf 2 first ++ codes.flatMap (bytesOf 4)) s =
      if 512 < first.toNat + codes.length then (s, .fail .badIndex)
      else
        (legalEntries codes).elim (s, .fail .badValue) fun es =>
          (s.setBank s.active.other
              { s.stagingBank with entries := writeEntries s.stagingBank.entries first.toNat es },
            .ok (bankResult s.active.other)) := by
  rw [bytesOf_two, List.cons_append, List.cons_append, List.nil_append]
  unfold State.writeEntry
  simp only [readEntryCodes_flatMap, hfree]
  rw [if_neg (by omega), half_of_bytes]
  cases legalEntries codes <;> rfl

theorem writeWindow_written {s : State} (hfree : s.tableBarred = none) {source : Byte} {code : Half} {n : SourceNo}
    (hn : n.val = source.toNat) {w : Window} (hw : Window.ofCode code = some w) :
    State.writeWindow (source :: bytesOf 2 code) s =
      (s.setBank s.active.other { s.stagingBank with windows := s.stagingBank.windows.set n w },
        .ok (bankResult s.active.other)) := by
  rw [bytesOf_two]
  simp only [State.writeWindow, hfree, inRange_val (v := n) hn, half_of_bytes, hw]

theorem writeWindow_badIndex {s : State} (hfree : s.tableBarred = none) {source : Byte} (h : 13 ≤ source.toNat)
    (code : Half) : State.writeWindow (source :: bytesOf 2 code) s = (s, .fail .badIndex) := by
  rw [bytesOf_two]
  simp only [State.writeWindow, hfree, inRange_none h]

theorem writeWindow_badValue {s : State} (hfree : s.tableBarred = none) {source : Byte} (h : source.toNat < 13)
    {code : Half} (hcode : Window.ofCode code = none) :
    State.writeWindow (source :: bytesOf 2 code) s = (s, .fail .badValue) := by
  rw [bytesOf_two]
  simp only [State.writeWindow, hfree, inRange_val (v := ⟨source.toNat, h⟩) rfl, half_of_bytes, hcode]

/-- Settles O51: entries written as one list, and one window. -/
theorem tableWritesReachStagingBank : Obligations.TableWritesReachStagingBank := by
  intro s r hfrozen hcopy
  dsimp only
  rw [← other_code]
  have hfree : (dequeued s).tableBarred = none := tableBarred_free (s := dequeued s) hfrozen hcopy
  refine ⟨fun first codes hlow hhigh hg => ?entries, fun source code hg => ?window⟩
  case entries =>
    have hwrite := writeEntry_operands_eq (first := first) hlow hhigh hfree
    rw [show exec .writeEntry s = _ from exec_granted 0 hg]
    refine ⟨fun hindex => ?_, fun hindex hbad => ?_, fun hindex hgood => ?_⟩
    · exact congrArg Host.Outcome.next (performed_fail hg (hwrite.trans (if_pos hindex)))
    · rw [if_neg (not_lt.2 hindex), legalEntries_none hbad] at hwrite
      exact congrArg Host.Outcome.next (performed_fail hg hwrite)
    · obtain ⟨es, hes⟩ := exists_legalEntries hgood
      have hlength := legalEntries_length hes
      rw [if_neg (not_lt.2 hindex), hes, Option.elim_some, setBank_dequeued] at hwrite
      refine ⟨{ s.stagingBank with entries := writeEntries s.stagingBank.entries first.toNat es }, rfl, fun i => ?_,
        congrArg Host.Outcome.next (performed_ok hg (setBank_links ..) hwrite)⟩
      rw [legalEntries_get hes, ← hlength]
      exact writeEntries_get (by omega) i
  case window =>
    rw [show exec .writeWindow s = _ from exec_granted 0 hg]
    refine ⟨fun hindex => ?_, fun hindex hbad => ?_, fun n w hn hw => ?_⟩
    · exact congrArg Host.Outcome.next (performed_fail hg (writeWindow_badIndex hfree hindex code))
    · exact congrArg Host.Outcome.next (performed_fail hg (writeWindow_badValue hfree hindex hbad))
    · exact congrArg Host.Outcome.next (performed_ok hg (setBank_links ..)
        ((writeWindow_written hfree hn hw).trans (congrArg (·, _) (setBank_dequeued ..))))

/-! ## COMMIT and the copy phase (R13 to R15) -/

theorem other_eq (n : BankName) : n.other = if n = .a then .b else .a := by cases n <;> rfl

theorem choice_none {b : Byte} (hcopy : b ≠ 0x00) (hkeep : b ≠ 0x01) : Choice.ofCode b = none := by
  rw [Choice.ofCode, if_neg hcopy, if_neg hkeep]

theorem bankReady_payload (n : BankName) :
    eventPayload none none (n.code.setWidth 16) = 0xFFFF0000 + if n = .a then 0 else 1 := by
  cases n <;> decide

theorem copied_banks (s : State) :
    ({ s.setBank s.active.other s.activeBank with copyState := .idle } : State) =
      { s with copyState := .idle, bankA := s.activeBank, bankB := s.activeBank } := by
  unfold State.activeBank State.setBank State.bank
  cases s.active <;> rfl

theorem activeBank_eq (s : State) : s.activeBank = if s.active = .a then s.bankA else s.bankB := by
  unfold State.activeBank State.bank
  cases s.active <;> rfl

/-- Settles O52: COMMIT by its choice, and the end of the copy phase. -/
theorem commitSwitchesBanks : Obligations.CommitSwitchesBanks := by
  refine ⟨fun s r choice hg hfrozen hcopy hsaving => ?commit, fun s hcopy => ?ends⟩
  case commit =>
    dsimp only
    rw [← other_code, ← other_eq, show exec .commit s = _ from exec_granted 0 hg]
    have hfree : (dequeued s).tableBarred = none := tableBarred_free (s := dequeued s) hfrozen hcopy
    have hidle : ¬ (dequeued s).saving.isSome = true := by simp [dequeued, hsaving]
    refine ⟨?_, ?_, fun hnotCopy hnotKeep => ?_⟩
    · rintro rfl
      refine congrArg Host.Outcome.next
        (performed_ok (b := { s with active := s.active.other, copyState := .copying }) hg rfl ?_)
      simp only [State.commit, hfree, if_neg hidle]
      rfl
    · rintro rfl
      refine congrArg Host.Outcome.next (performed_ok (b := { s with active := s.active.other }) hg rfl ?_)
      simp only [State.commit, hfree, if_neg hidle]
      rfl
    · refine congrArg Host.Outcome.next (performed_fail hg ?_)
      simp only [State.commit, hfree, if_neg hidle, choice_none hnotCopy hnotKeep]
  case ends =>
    dsimp only
    change execCopyPhaseEnd s = _
    unfold execCopyPhaseEnd
    rw [if_pos hcopy]
    dsimp only
    rw [copied_banks, State.notice, bankReady_payload, activeBank_eq]

end Sys2Proof.Proofs
end

section
/-! SET_LINK and RESET_LINK (R159, R174, R177), and CANCEL (R36). -/

open Sys2Proof Sys2Proof.Machine

namespace Sys2Proof.Proofs

/-! ## SET_LINK (R174, R200) -/

theorem bytesOf_three (c : BitVec 24) :
    bytesOf 3 c = [c.extractLsb' 16 8, c.extractLsb' 8 8, c.extractLsb' 0 8] := rfl

/-- The state with the record of a link written, and the timer record of its target when it has one (R161, R174). -/
def linkWritten (s : State) (l : LinkNo) (record : LinkRecord) (timer : TimerRecord) : State :=
  { s.withLink l { s.links[l] with record := record } with
    timers :=
      match linkTarget l with
      | some t => s.timers.set t timer
      | none => s.timers }

theorem linkWritten_source {s : State} {l : LinkNo} (h : linkTarget l = none) (record : LinkRecord)
    (timer : TimerRecord) : linkWritten s l record timer = s.withLink l { s.links[l] with record := record } := by
  simp only [linkWritten, h]
  rfl

theorem linkWritten_target (s : State) (t : TargetNo) (record : LinkRecord) (timer : TimerRecord) :
    linkWritten s (targetLink t) record timer =
      { s.withLink (targetLink t) { s.links[targetLink t] with record := record } with
        timers := s.timers.set t timer } := by
  simp only [linkWritten, linkTarget_targetLink]

theorem writeLink_source {s : State} {l : LinkNo} (h : linkTarget l = none) (record : LinkRecord)
    (timer : Option TimerRecord) : s.writeLink l record timer = s.withLink l { s.links[l] with record := record } := by
  unfold State.writeLink
  rw [h]
  cases timer <;> rfl

theorem writeLink_target (s : State) (t : TargetNo) (record : LinkRecord) (timer : TimerRecord) :
    s.writeLink (targetLink t) record (some timer) = linkWritten s (targetLink t) record timer := by
  simp only [State.writeLink, linkWritten_target, linkTarget_targetLink]
  rfl

theorem linkWritten_up {s : State} {l : LinkNo} (record : LinkRecord) (timer : TimerRecord) (m : LinkNo) :
    (linkWritten s l record timer).isUp m = s.isUp m ∧
      (linkWritten s l record timer).links[m].session = s.links[m].session := by
  have hlink : (linkWritten s l record timer).links[m] =
      if m = l then { s.links[l] with record := record } else s.links[m] := by
    by_cases hm : m = l
    · subst hm
      rw [if_pos rfl]
      exact State.withLink_self ..
    · rw [if_neg hm]
      exact State.withLink_ne _ _ hm
  rw [State.isUp, hlink, State.isUp]
  by_cases hm : m = l
  · subst hm
    rw [if_pos rfl]
    exact ⟨rfl, rfl⟩
  · rw [if_neg hm]
    exact ⟨rfl, rfl⟩

theorem linkRecordBytes_source {s : State} {l : LinkNo} (h : linkTarget l = none) :
    s.linkRecordBytes l = bytesOf 3 s.links[l].record.code := by
  have hlow : ¬ 12 ≤ l.val := fun hle => by simpa [h] using linkTarget_isSome_of_le hle
  rw [State.linkRecordBytes, dif_neg hlow, List.append_nil]

theorem twelve_le_targetLink (t : TargetNo) : 12 ≤ (targetLink t).val := Nat.le_add_right 12 t.val

theorem linkRecordBytes_target (s : State) (t : TargetNo) :
    s.linkRecordBytes (targetLink t) =
      bytesOf 3 s.links[targetLink t].record.code ++ bytesOf 3 s.timers[t].code := by
  have htarget : (targetLink t).val - 12 = t.val := Nat.add_sub_cancel_left ..
  rw [State.linkRecordBytes, dif_pos (twelve_le_targetLink t)]
  simp only [htarget]
  rfl

theorem setLink_written {s : State} (hfrozen : s.frozen = false) {l : LinkNo} {record : LinkRecord}
    (hrecord : record.legal = true) {timer : TimerRecord} {rest : List Byte} (hlength : rest.length = 3)
    (htimer : 12 ≤ l.val → rest = bytesOf 3 timer.code ∧ timer.legal = true) :
    State.setLink (BitVec.ofNat 8 l.val :: (bytesOf 3 record.code ++ rest)) s =
      (linkWritten s l record timer,
        .ok (plain (BitVec.ofNat 8 l.val :: (linkWritten s l record timer).linkRecordBytes l))) := by
  obtain ⟨a, b, c, rfl⟩ := List.length_eq_three.1 hlength
  have hl : inRange 16 (BitVec.ofNat 8 l.val).toNat = some l := inRange_val (by rw [length_byte (by omega)])
  have hcode : LinkRecord.ofCode
      (record.code.extractLsb' 16 8 ++ record.code.extractLsb' 8 8 ++ record.code.extractLsb' 0 8) = some record := by
    rw [append_threeBytes, LinkRecord.ofCode_code hrecord]
  rw [bytesOf_three, List.cons_append, List.cons_append, List.cons_append, List.nil_append]
  unfold State.setLink
  simp only [hfrozen, hl, hcode, if_neg Bool.false_ne_true]
  cases htarget : linkTarget l with
  | none =>
    rw [Option.isSome_none, Bool.false_and, if_neg Bool.false_ne_true, writeLink_source htarget,
      linkWritten_source htarget]
  | some t =>
    obtain rfl := linkTarget_eq_some.1 htarget
    obtain ⟨hbytes, hlegal⟩ := htimer (twelve_le_targetLink t)
    rw [bytesOf_three] at hbytes
    cases hbytes
    rw [append_threeBytes, TimerRecord.ofCode_code hlegal, Option.isSome_some, Option.isNone_some, Bool.and_false,
      if_neg Bool.false_ne_true, writeLink_target]

theorem linkWritten_bytes (s : State) (l : LinkNo) (record : LinkRecord) (timer : TimerRecord) :
    (linkWritten s l record timer).linkRecordBytes l =
      bytesOf 3 record.code ++ if 12 ≤ l.val then bytesOf 3 timer.code else [] := by
  cases htarget : linkTarget l with
  | none =>
    have hlow : ¬ 12 ≤ l.val := fun hle => by simpa [htarget] using linkTarget_isSome_of_le hle
    rw [linkRecordBytes_source htarget, linkWritten_source htarget, State.withLink_self, if_neg hlow, List.append_nil]
  | some t =>
    obtain rfl := linkTarget_eq_some.1 htarget
    have hself : (linkWritten s (targetLink t) record timer).links[targetLink t].record = record :=
      congrArg Link.record (State.withLink_self s (targetLink t) { s.links[targetLink t] with record := record })
    have htimers : (linkWritten s (targetLink t) record timer).timers[t] = timer := by
      rw [linkWritten_target]
      exact Vector.getElem_set_self _
    rw [linkRecordBytes_target, hself, htimers, if_pos (twelve_le_targetLink t)]

/-! ## RESET_LINK (R159, R177) -/

/-- An answer with named bytes to a request whose link is still in its session. -/
theorem answer_live {b : State} {r : Request} (hup : b.isUp r.link = true) (hsession : b.links[r.link].session = r.session)
    (status : Status) (results : List Byte) :
    b.answer r { status := status, results := plain results } false =
      b.queued r.link (.response r.sequence status results) := by
  rw [State.answer_named hup hsession (hasUnnamed_plain _), render_plain]

/-- States whose links agree but for their transmit lists have the same sessions. -/
theorem live_of_cores {s b : State} (h : b.cores = s.cores) (m : LinkNo) :
    b.links[m].state = s.links[m].state ∧ b.links[m].session = s.links[m].session := by
  have hcore : b.links[m].core = s.links[m].core := by
    simpa only [State.cores, Fin.getElem_fin, Vector.getElem_map] using congrArg (·[m]) h
  exact ⟨show b.links[m].core.state = s.links[m].core.state by rw [hcore],
    show b.links[m].core.session = s.links[m].core.session by rw [hcore]⟩

theorem clearSession_live (s : State) {l m : LinkNo} (h : m ≠ l) :
    (s.clearSession l).links[m].state = s.links[m].state ∧
      (s.clearSession l).links[m].session = s.links[m].session := by
  have hcleared : (sessionCleared s l).links[m] = s.links[m] := State.withLink_ne _ _ h
  cases htarget : linkTarget l with
  | none => rw [clearSession_source htarget, hcleared]; exact ⟨rfl, rfl⟩
  | some t =>
    obtain rfl := linkTarget_eq_some.1 htarget
    rw [clearSession_target, ← hcleared]
    exact live_of_cores (State.targetSessionEnd_cores ..) m

/-- The end of a link's session leaves every other link in its session. -/
theorem sessionEnd_live (s : State) {l m : LinkNo} (h : m ≠ l) :
    (s.sessionEnd l).links[m].state = s.links[m].state ∧ (s.sessionEnd l).links[m].session = s.links[m].session := by
  cases htarget : linkTarget l with
  | none =>
    rw [State.sessionEnd_source s htarget]
    exact clearSession_live s h
  | some t =>
    obtain rfl := linkTarget_eq_some.1 htarget
    obtain ⟨ingress, transmit, grant, hlink⟩ := takeInProgress_link s t m
    obtain ⟨hstate, hsession⟩ := clearSession_live (s.takeInProgress t) h
    rw [hlink] at hstate hsession
    rw [State.sessionEnd_target]
    exact ⟨hstate, hsession⟩

theorem resetLink_other {s : State} {r : Request} {l : LinkNo} (hoperands : r.operands = [BitVec.ofNat 8 l.val])
    (h : l ≠ r.link) :
    State.resetLink r s =
      (s.resetLinkNow l).answer r (.ok (plain [BitVec.ofNat 8 l.val, s.links[l].state.code])) false := by
  have hl : inRange 16 (BitVec.ofNat 8 l.val).toNat = some l := inRange_val (by rw [length_byte (by omega)])
  simp only [State.resetLink, hoperands, hl, if_neg h]

theorem resetLink_own {s : State} {r : Request} (hoperands : r.operands = [BitVec.ofNat 8 r.link.val])
    (hup : s.isUp r.link = true) (hsession : s.links[r.link].session = r.session) :
    State.resetLink r s =
      s.withLink r.link
        { s.links[r.link] with
          transmit := s.links[r.link].transmit ++
            [{ frame := .response r.sequence .ok [BitVec.ofNat 8 r.link.val, 2], thenReset := true }] } := by
  have hl : inRange 16 (BitVec.ofNat 8 r.link.val).toNat = some r.link := inRange_val (by rw [length_byte (by omega)])
  have hcode : s.links[r.link].state.code = 2 := by
    rw [isUp_iff.1 hup]
    rfl
  simp only [State.resetLink, hoperands, hl, if_pos, State.answer, Reply.ok, hasUnnamed_plain, render_plain, hcode,
    if_neg Bool.false_ne_true]
  exact State.handOver_present _ hup hsession

theorem withLink_live {s : State} {l m : LinkNo} (h : m ≠ l) (k : Link) (hup : s.isUp m = true) {n : Nat}
    (hsession : s.links[m].session = n) :
    (s.withLink l k).isUp m = true ∧ (s.withLink l k).links[m].session = n := by
  rw [isUp_iff, State.withLink_ne _ _ h]
  exact ⟨isUp_iff.1 hup, hsession⟩

/-- Settles O56: the record written and answered, and the reset of the own link and of another. -/
theorem linkRequestsActOnLinks : Obligations.LinkRequestsActOnLinks := by
  refine ⟨fun s r l record timer rest hfrozen hrecord hlength htimer hg => ?set, fun s r l hg => ?reset⟩
  case set =>
    have hexec : exec .setLink s = .next (operationBody 0 .setLink r (dequeued s)) := exec_granted 0 hg
    obtain ⟨⟨-, -, hup, hsession⟩, hoperands, -⟩ := hg
    have hlive := linkWritten_up (s := dequeued s) (l := l) record timer r.link
    rw [hexec, operationBody, performed, hoperands,
      setLink_written (s := dequeued s) hfrozen hrecord hlength htimer]
    refine congrArg Host.Outcome.next ((answer_live (hlive.1.trans hup) (hlive.2.trans hsession) ..).trans ?_)
    rw [linkWritten_bytes]
    rfl
  case reset =>
    have hexec : exec .resetLink s = .next (State.resetLink r (dequeued s)) := exec_granted 0 hg
    obtain ⟨⟨-, -, hup, hsession⟩, hoperands, -⟩ := hg
    rw [hexec]
    refine ⟨?own, fun hl hstate => ?waiting, fun hl hstate _ _ => ?up⟩
    case own =>
      rintro rfl
      exact congrArg Host.Outcome.next (resetLink_own (s := dequeued s) hoperands hup hsession)
    case waiting =>
      have hlive := withLink_live (s := dequeued s) (Ne.symm hl) (s.links[l].calling l) hup hsession
      have hcode : (dequeued s).links[l].state.code = if s.links[l].state = .training then 1 else 3 := by
        rcases hstate with h | h <;> simp only [dequeued, h] <;> rfl
      rw [resetLink_other hoperands hl, resetLinkNow_waiting (s := dequeued s) hstate, hcode]
      exact congrArg Host.Outcome.next (answer_live hlive.1 hlive.2 ..)
    case up =>
      have hend := sessionEnd_live (dequeued s) (Ne.symm hl)
      have hlive := withLink_live (s := (dequeued s).sessionEnd l) (Ne.symm hl)
        (((dequeued s).sessionEnd l).links[l].calling l) (isUp_iff.2 (hend.1.trans (isUp_iff.1 hup)))
        (hend.2.trans hsession)
      have hcode : (dequeued s).links[l].state.code = 2 := by
        simp only [dequeued, hstate]
        rfl
      rw [resetLink_other hoperands hl, resetLinkNow_up (s := dequeued s) hstate, hcode]
      exact congrArg Host.Outcome.next (answer_live hlive.1 hlive.2 ..)

/-! ## CANCEL (R36) -/

/-- The record belongs to the pair. -/
def OfPair (t : TargetNo) (i : Index) (x : Record) : Prop := x.target = t ∧ x.index = i

theorem ofPair_iff {x : Record} {t : TargetNo} {i : Index} : x.ofPair t i = true ↔ OfPair t i x := by
  rw [Record.ofPair, Bool.and_eq_true, beq_iff_eq, beq_iff_eq, OfPair]

theorem isCancelled_iff {x : Record} {t : TargetNo} {i : Index} :
    x.isCancelled t i = true ↔ OfPair t i x ∧ ∀ m, x.offer = some m → m.void = false := by
  unfold Record.isCancelled
  rw [Bool.and_eq_true, ofPair_iff]
  cases x.offer <;> simp

theorem mem_cancelRecords {rs : List Record} {t : TargetNo} {i : Index} {y : Record} :
    y ∈ cancelRecords t i rs ↔
      ∃ x ∈ rs, (¬ OfPair t i x ∧ y = x) ∨
        (OfPair t i x ∧ ∃ m, x.offer = some m ∧ y = { x with offer := some { m with void := true } }) := by
  unfold cancelRecords
  rw [List.mem_map]
  refine exists_congr fun x => ?_
  rw [List.mem_filter, and_assoc]
  refine and_congr_right fun _ => ?_
  by_cases hpair : OfPair t i x
  · rw [if_pos (ofPair_iff.2 hpair), ofPair_iff.2 hpair]
    cases x.offer <;> simp [hpair, eq_comm]
  · have hfalse : x.ofPair t i = false := Bool.eq_false_iff.2 fun h => hpair (ofPair_iff.1 h)
    rw [hfalse]
    simp [hpair, eq_comm]

theorem cancelRecords_slots (rs : List Record) (t : TargetNo) (i : Index) :
    ((cancelRecords t i rs).map Record.slot).Sublist (rs.map Record.slot) := by
  have hslot : (cancelRecords t i rs).map Record.slot =
      (rs.filter fun r => !(r.ofPair t i && r.offer.isNone)).map Record.slot := by
    rw [cancelRecords, List.map_map]
    refine List.map_congr_left fun x _ => ?_
    dsimp only [Function.comp]
    split <;> rfl
  rw [hslot]
  exact List.filter_sublist.map _

theorem cancel_badIndex {s : State} {target : Byte} {index : Half} (h : 4 ≤ target.toNat ∨ 512 ≤ index.toNat) :
    State.cancel (target :: bytesOf 2 index) s = (s, .fail .badIndex) := by
  rw [bytesOf_two]
  unfold State.cancel
  dsimp only
  rw [half_of_bytes]
  rcases h with h | h
  · rw [inRange_none h]
  · rw [inRange_none h]
    cases inRange 4 target.toNat <;> rfl

theorem cancel_eq {s : State} {target : Byte} {index : Half} {t : TargetNo} {i : Index} (ht : t.val = target.toNat)
    (hi : i.val = index.toNat) :
    State.cancel (target :: bytesOf 2 index) (dequeued s) =
      if (s.records.filter fun x => x.isCancelled t i).length = 0 then (dequeued s, .fail .notPending)
      else
        (dequeued (s.setRecords (cancelRecords t i s.records)),
          .ok (plain (bytesOf 2
            (BitVec.ofNat 16 (s.records.filter fun x => x.isCancelled t i).length)))) := by
  rw [bytesOf_two]
  unfold State.cancel
  dsimp only
  rw [half_of_bytes, inRange_val ht, inRange_val hi]
  rfl

/-- Settles O58: the count decides between NOT_PENDING and the records freed and voided. -/
theorem cancelRemovesPending : Obligations.CancelRemovesPending := by
  intro s r target index hg
  rw [show exec .cancel s = _ from exec_granted 0 hg]
  refine ⟨fun h => congrArg Host.Outcome.next (performed_fail hg (cancel_badIndex h)), fun t i ht hi => ?_⟩
  have hcancel := cancel_eq (s := s) ht hi
  refine ⟨fun hnone => ?_, fun hsome => ?_⟩
  · have hzero : (s.records.filter fun x => x.isCancelled t i).length = 0 := by
      rw [List.length_eq_zero_iff, List.filter_eq_nil_iff]
      rintro x hx hc
      obtain ⟨hpair, hlive⟩ := isCancelled_iff.1 hc
      obtain ⟨m, hm, hvoid⟩ := hnone x hx hpair
      rw [hlive m hm] at hvoid
      cases hvoid
    exact congrArg Host.Outcome.next (performed_fail hg (hcancel.trans (if_pos hzero)))
  · have hpos : (s.records.filter fun x => x.isCancelled t i).length ≠ 0 := by
      obtain ⟨x, hx, hpair, hlive⟩ := hsome
      exact mt List.length_eq_zero_iff.1
        (List.ne_nil_of_mem (List.mem_filter.2 ⟨hx, isCancelled_iff.2 ⟨hpair, hlive⟩⟩))
    refine ⟨cancelRecords t i s.records, (s.records.filter fun x => x.isCancelled t i).length, ?_,
      fun y => mem_cancelRecords, cancelRecords_slots .., ?_⟩
    · rw [if_neg hpos] at hcancel
      generalize (s.records.filter fun x => x.isCancelled t i).length = n at hcancel ⊢
      exact congrArg Host.Outcome.next
        (performed_ok (b := s.setRecords (cancelRecords t i s.records)) hg rfl hcancel)
    · refine congrArg (fun p : Record → Bool => (s.records.filter p).length) (funext fun x => ?_)
      rw [Record.isCancelled, Record.ofPair, Bool.decide_and]
      rfl

end Sys2Proof.Proofs
end

section
/-! RESTART (R178, R179): what each of its handlings does, and the state after all three in any order. -/

open Sys2Proof Sys2Proof.Machine

namespace Sys2Proof.Proofs

/-! ## The VOID frames (R126) -/

/-- An offer is held in OFFERED alone, and then the link of the target is UP. -/
def OffersLive (s : State) : Prop :=
  ∀ (t : TargetNo) (o : Offer), s.targets[t].offer = some o → s.targets[t].state = .offered ∧ s.isUp (targetLink t) = true

theorem offersLive_of_sound {s : State} (hdelivery : DeliverySound s) (hlinks : LinksSound s) : OffersLive s := by
  intro t o hoffer
  obtain ⟨hsound, -, -⟩ := hdelivery.2 t
  have hstate : s.targets[t].state = .offered := by
    by_contra hnot
    rw [OfferSound, if_neg hnot, hoffer] at hsound
    cases hsound.2
  refine ⟨hstate, Bool.not_eq_false _ ▸ fun hdown => ?_⟩
  rw [(hlinks.2.1 t).2 hdown] at hstate
  cases hstate

/-- The VOID that a RESTART sends on a link. -/
def voidFrames (s : State) (l : LinkNo) : List Queued :=
  ((linkTarget l).bind fun g => s.targets[g].offer).elim [] fun o => [{ frame := .void o.tag, thenReset := false }]

theorem voidOffer_link {s : State} (h : OffersLive s) (t : TargetNo) (l : LinkNo) :
    (s.voidOffer t).links[l] =
      { s.links[l] with
        transmit := s.links[l].transmit ++ if l = targetLink t then voidFrames s l else [] } := by
  cases hoffer : s.targets[t].offer with
  | none =>
    have hnone : (if l = targetLink t then voidFrames s l else []) = [] := by
      split
      · next hl =>
        subst hl
        simp only [voidFrames, linkTarget_targetLink, Option.bind_some, hoffer, Option.elim_none]
      · rfl
    simp only [State.voidOffer, hoffer, ite_self, hnone, List.append_nil]
  | some o =>
    obtain ⟨hstate, hup⟩ := h t o hoffer
    simp only [State.voidOffer, hstate, hoffer, if_pos, State.post, handOver_link]
    by_cases hl : l = targetLink t
    · subst hl
      simp only [voidFrames, linkTarget_targetLink, Option.bind_some, hoffer, Option.elim_some, hup, if_pos, and_self]
    · simp only [hl, false_and, if_false, List.append_nil]

theorem voidOffer_rest (s : State) (t : TargetNo) : ∃ links, s.voidOffer t = { s with links := links } := by
  unfold State.voidOffer State.post State.handOver
  split
  · split
    · split <;> exact ⟨_, rfl⟩
    · exact ⟨_, rfl⟩
  · exact ⟨_, rfl⟩

theorem voidOffers_rest (s : State) (ts : List TargetNo) :
    ∃ links, ts.foldl State.voidOffer s = { s with links := links } := by
  induction ts generalizing s with
  | nil => exact ⟨_, rfl⟩
  | cons t ts ih =>
    obtain ⟨links, hlinks⟩ := voidOffer_rest s t
    obtain ⟨links', hlinks'⟩ := ih (s.voidOffer t)
    exact ⟨links', hlinks'.trans (by rw [hlinks])⟩

/-- The VOID frames depend on the targets and the links alone. -/
theorem voidOffers_links {a b : State} (ht : a.targets = b.targets) (hl : a.links = b.links) (ts : List TargetNo) :
    (ts.foldl State.voidOffer a).links = (ts.foldl State.voidOffer b).links := by
  induction ts generalizing a b with
  | nil => exact hl
  | cons t ts ih =>
    refine ih ((voidOffer_targets a t).trans (ht.trans (voidOffer_targets b t).symm)) ?_
    unfold State.voidOffer
    rw [ht]
    split
    · split
      · unfold State.post State.handOver State.isUp State.modLink
        rw [hl]
        split
        · rfl
        · exact hl
      · exact hl
    · exact hl

theorem offersLive_voidOffer {s : State} (h : OffersLive s) (t : TargetNo) : OffersLive (s.voidOffer t) := by
  intro u o
  have hup : (s.voidOffer t).isUp (targetLink u) = s.isUp (targetLink u) :=
    (voidOffers_delivers (P := .any) [t] s).moves.isUp _
  rw [voidOffer_targets, hup]
  exact h u o

theorem voidOffers_link {s : State} (h : OffersLive s) {ts : List TargetNo} (hnodup : ts.Nodup) (l : LinkNo) :
    (ts.foldl State.voidOffer s).links[l] =
      { s.links[l] with
        transmit := s.links[l].transmit ++ if ∃ t ∈ ts, l = targetLink t then voidFrames s l else [] } := by
  induction ts generalizing s with
  | nil =>
    rw [if_neg (by simp), List.append_nil]
    rfl
  | cons t ts ih =>
    obtain ⟨hnot, hrest⟩ := List.nodup_cons.1 hnodup
    have hframes : voidFrames (s.voidOffer t) l = voidFrames s l := by
      rw [voidFrames, voidOffer_targets]
      rfl
    rw [List.foldl_cons, ih (offersLive_voidOffer h t) hrest, voidOffer_link h, hframes]
    by_cases hl : l = targetLink t
    · have hlater : ¬ ∃ u ∈ ts, l = targetLink u := by
        rintro ⟨u, hu, rfl⟩
        exact hnot (targetLink_injective hl ▸ hu)
      rw [if_neg hlater, if_pos hl, if_pos ⟨t, List.mem_cons_self, hl⟩, List.append_nil]
    · have hmem : (∃ u ∈ t :: ts, l = targetLink u) ↔ ∃ u ∈ ts, l = targetLink u := by
        simp only [List.mem_cons, exists_eq_or_imp, hl, false_or]
      simp only [if_neg hl, hmem, List.append_nil]

theorem voidFrames_link {s : State} (h : OffersLive s) (l : LinkNo) :
    ((List.finRange 4).foldl State.voidOffer s).links[l] =
      { s.links[l] with transmit := s.links[l].transmit ++ voidFrames s l } := by
  rw [voidOffers_link h (List.nodup_finRange 4)]
  split
  · rfl
  · next hnone =>
    have hframes : voidFrames s l = [] := by
      cases htarget : linkTarget l with
      | none => rw [voidFrames, htarget, Option.bind_none, Option.elim_none]
      | some t => exact absurd ⟨t, List.mem_finRange t, linkTarget_eq_some.1 htarget⟩ hnone
    rw [hframes]

/-! ## The handlings -/

theorem restartPart_target (s : State) (g : TargetNo) :
    (s.restartPart .delivery).targets[g] =
      { s.targets[g].resting (if s.isUp (targetLink g) then .ready else .offline) with stack := [], threshold := 8 } := by
  simp only [State.restartPart, Fin.getElem_fin, Vector.getElem_ofFn]
  rfl

theorem restartPart_links (s : State) :
    (s.restartPart .delivery).links = ((List.finRange 4).foldl State.voidOffer s).links := by
  simp only [State.restartPart]

theorem restartPart_link {s : State} (h : OffersLive s) (l : LinkNo) :
    (s.restartPart .delivery).links[l] =
      { s.links[l] with transmit := s.links[l].transmit ++ voidFrames s l } := by
  rw [restartPart_links, voidFrames_link h]

theorem restartPart_handled {s : State} (h : OffersLive s) (p : RestartPart) : RestartHandled s (s.restartPart p) p := by
  cases p with
  | delivery =>
    refine ⟨rfl, restartPart_target s, fun l => (restartPart_link h l).trans ?_, ?_⟩
    · unfold voidFrames
      cases (linkTarget l).bind fun g => s.targets[g].offer <;> rfl
    · obtain ⟨links, hlinks⟩ := voidOffers_rest s (List.finRange 4)
      simp only [State.restartPart, hlinks]
  | latches => exact ⟨fun i => Vector.getElem_replicate i.isLt, rfl⟩
  | pointers => exact ⟨fun i => Vector.getElem_replicate i.isLt, rfl⟩

theorem answer_empty (s : State) (r : Request) :
    s.answer r (.ok []) false = s.answeredIn r.link r.session (.response r.sequence .ok []) :=
  State.answer_eq_answeredIn (reply := .ok []) s r rfl

theorem exec_restart_next {s : State} {run : RestartRun} (hload : s.loading = false)
    (hcurrent : s.current = some (.restart run)) (hleft : run.left ≠ []) :
    ∃ p ∈ run.left,
      exec .restart s =
        .next (if run.left.erase p = [] then
            ({ s.restartPart p with draws := s.draws + 1, current := none } : State).answeredIn run.request.link
              run.request.session (.response run.request.sequence .ok [])
          else
            { s.restartPart p with
              draws := s.draws + 1, current := some (.restart { run with left := run.left.erase p }) }) := by
  obtain ⟨p, hp, hnext⟩ := State.restartNext_cases s hleft
  refine ⟨p, hp, ?_⟩
  change execRestart s = _
  simp only [execRestart, hcurrent, hload, if_neg Bool.false_ne_true]
  rw [hnext, answer_empty]

/-! ## All three handlings -/

/-- The state `s` with each handling done that is not `left`. -/
def restartedBut (left : List RestartPart) (s : State) : State :=
  { s with
    records := if .delivery ∈ left then s.records else []
    targets := if .delivery ∈ left then s.targets else (s.restartPart .delivery).targets
    links := if .delivery ∈ left then s.links else (s.restartPart .delivery).links
    latches := if .latches ∈ left then s.latches else Vector.replicate 512 none
    pointers := if .pointers ∈ left then s.pointers else Vector.replicate 512 none }

/-- One handling more, whatever the count of free choices and the current request. -/
theorem restartedBut_erase {left : List RestartPart} (hnodup : left.Nodup) {p : RestartPart} (hp : p ∈ left) (s : State)
    (draws draws' : Nat) (current current' : Option CurrentRequest) :
    { ({ restartedBut left s with draws := draws, current := current } : State).restartPart p with
        draws := draws', current := current' } =
      { restartedBut (left.erase p) s with draws := draws', current := current' } := by
  have hgone : p ∉ left.erase p := hnodup.not_mem_erase
  cases p with
  | delivery =>
    obtain ⟨b, hb⟩ : ∃ b : State, b = { restartedBut left s with draws := draws, current := current } := ⟨_, rfl⟩
    obtain ⟨links, hlinks⟩ := voidOffers_rest b (List.finRange 4)
    have htargets : b.targets = s.targets := by rw [hb]; exact if_pos hp
    have hbefore : b.links = s.links := by rw [hb]; exact if_pos hp
    have hsame : links = (s.restartPart .delivery).links := by
      rw [restartPart_links, ← voidOffers_links htargets hbefore, hlinks]
    have hrested : (b.restartPart .delivery).targets = (s.restartPart .delivery).targets := by
      unfold State.restartPart State.isUp
      rw [htargets, hbefore]
    have hpart : b.restartPart .delivery =
        { b with records := [], targets := (s.restartPart .delivery).targets, links := links } := by
      rw [← hrested]
      simp only [State.restartPart, hlinks]
    rw [← hb, hpart, hb, hsame]
    simp only [restartedBut, if_neg hgone, List.mem_erase_of_ne (by decide : RestartPart.latches ≠ .delivery),
      List.mem_erase_of_ne (by decide : RestartPart.pointers ≠ .delivery)]
  | latches =>
    simp only [State.restartPart, restartedBut, if_neg hgone,
      List.mem_erase_of_ne (by decide : RestartPart.delivery ≠ .latches),
      List.mem_erase_of_ne (by decide : RestartPart.pointers ≠ .latches)]
  | pointers =>
    simp only [State.restartPart, restartedBut, if_neg hgone,
      List.mem_erase_of_ne (by decide : RestartPart.delivery ≠ .pointers),
      List.mem_erase_of_ne (by decide : RestartPart.latches ≠ .pointers)]

theorem repeated_succ {s t : State} {c : Instr} (h : exec c s = .next t) (n : Nat) :
    s.repeated c (n + 1) = t.repeated c n := by
  simp only [State.repeated, h]

/-- The handlings that are left, done with nothing between them, in whatever order, and the response. -/
theorem restart_repeated {s : State} (hload : s.loading = false) {r : Request} {n : Nat} {left : List RestartPart}
    (hlength : left.length = n + 1) (hnodup : left.Nodup) (draws : Nat) :
    ({ restartedBut left s with
        draws := draws, current := some (.restart { request := r, left := left }) } : State).repeated .restart (n + 1) =
      ({ restartedBut [] s with draws := draws + (n + 1), current := none } : State).answeredIn r.link r.session
        (.response r.sequence .ok []) := by
  induction n generalizing left draws with
  | zero =>
    obtain ⟨p, hp, hnext⟩ := exec_restart_next (s := { restartedBut left s with
      draws := draws, current := some (.restart { request := r, left := left }) }) hload rfl
      (List.ne_nil_of_length_eq_add_one hlength)
    have hlast : left.erase p = [] := by
      rw [← List.length_eq_zero_iff, List.length_erase_of_mem hp, hlength]
    rw [repeated_succ hnext, if_pos hlast, restartedBut_erase hnodup hp, hlast]
    rfl
  | succ n ih =>
    obtain ⟨p, hp, hnext⟩ := exec_restart_next (s := { restartedBut left s with
      draws := draws, current := some (.restart { request := r, left := left }) }) hload rfl
      (List.ne_nil_of_length_eq_add_one hlength)
    have hcount : (left.erase p).length = n + 1 := by
      rw [List.length_erase_of_mem hp, hlength]
      omega
    have hmore : left.erase p ≠ [] := List.ne_nil_of_length_pos (by omega)
    rw [repeated_succ hnext, if_neg hmore, restartedBut_erase hnodup hp,
      ih hcount (hnodup.erase p), Nat.add_assoc, Nat.add_comm 1]

theorem exec_restart_start {s : State} {r : Request} (hg : Granted s .restart r []) :
    exec .restart s =
      .next { s with
        queue := []
        current := some (.restart { request := r, left := [.delivery, .latches, .pointers] }) } := by
  rw [show exec .restart s = _ from exec_granted 0 hg]
  simp only [operationBody, State.startRestart, hg.2.1]
  rfl

/-- What stands after all three handlings. -/
theorem restartedBut_none {s : State} (h : OffersLive s) :
    ∃ targets links,
      restartedBut [] s =
        { s with
          records := [], targets := targets, links := links, latches := Vector.replicate 512 none,
          pointers := Vector.replicate 512 none } ∧
      (∀ g : TargetNo, targets[g] =
        { s.targets[g].resting (if s.isUp (targetLink g) then .ready else .offline) with stack := [], threshold := 8 }) ∧
      ∀ l : LinkNo, links[l] = { s.links[l] with transmit := s.links[l].transmit ++ voidFrames s l } := by
  refine ⟨(s.restartPart .delivery).targets, (s.restartPart .delivery).links, ?_, restartPart_target s,
    restartPart_link h⟩
  simp only [restartedBut, List.not_mem_nil, if_false]

theorem queued_link (s : State) (l : LinkNo) (f : OutFrame) (m : LinkNo) :
    (s.queued l f).links[m] =
      { s.links[m] with
        transmit := s.links[m].transmit ++ if m = l then [{ frame := f, thenReset := false }] else [] } := by
  by_cases hm : m = l
  · subst hm
    rw [if_pos rfl]
    exact State.withLink_self ..
  · rw [if_neg hm, List.append_nil]
    exact State.withLink_ne _ _ hm

theorem answeredIn_live {s : State} {l : LinkNo} {n : Nat} (hup : s.isUp l = true) (hsession : s.links[l].session = n)
    (f : OutFrame) : s.answeredIn l n f = s.queued l f := if_pos ⟨hup, hsession⟩

theorem restart_whole {s : State} {r : Request} (hg : Granted s .restart r []) (hlive : OffersLive s) :
    ∃ targets links,
      s.repeated .restart 4 =
        ({ s with
          records := [], queue := [], targets := targets, links := links, latches := Vector.replicate 512 none,
          pointers := Vector.replicate 512 none, draws := s.draws + 3 } : State).queued r.link
          (.response r.sequence .ok []) ∧
      (∀ g : TargetNo, targets[g] =
        { s.targets[g].resting (if s.isUp (targetLink g) then .ready else .offline) with stack := [], threshold := 8 }) ∧
      ∀ l : LinkNo, links[l] = { s.links[l] with transmit := s.links[l].transmit ++ voidFrames s l } := by
  have hend := (repeated_succ (exec_restart_start hg) 3)
  obtain ⟨⟨htaken, -, hup, hsession⟩, -, -⟩ := hg
  obtain ⟨hload, hidle⟩ := nextRequest_idle (nextRequest_of_takenFor (by decide) htaken)
  have hrun := restart_repeated (s := { s with queue := [] }) (r := r)
    (left := [.delivery, .latches, .pointers]) hload rfl (by decide) s.draws
  obtain ⟨targets, links, hdone, htargets, hlinks⟩ := restartedBut_none (s := { s with queue := [] }) hlive
  refine ⟨targets, links, (hend.trans hrun).trans ?_, htargets, hlinks⟩
  rw [hdone, ← hidle]
  exact answeredIn_live (isUp_iff.2 ((congrArg Link.state (hlinks r.link)).trans (isUp_iff.1 hup)))
    ((congrArg Link.session (hlinks r.link)).trans hsession) _

/-- Settles O57: the request as it is taken, one handling, and the four steps together. -/
theorem restartClearsDelivery : Obligations.RestartClearsDelivery := by
  refine ⟨fun s r hg => exec_restart_start hg, fun s run hload hcurrent hleft hdelivery hlinks => ?handled,
    fun s r hg hdelivery hlinks => ?whole⟩
  case handled =>
    obtain ⟨p, hp, hnext⟩ := exec_restart_next hload hcurrent hleft
    exact ⟨p, s.restartPart p, hp, restartPart_handled (offersLive_of_sound hdelivery hlinks) p, hnext⟩
  case whole =>
    intro t
    obtain ⟨targets, links, hend, htargets, hlinks⟩ := restart_whole hg (offersLive_of_sound hdelivery hlinks)
    have ht : t = _ := hend
    clear_value t
    subst ht
    refine ⟨rfl, freeCount_of_empty rfl, rfl,
      fun i => ⟨Vector.getElem_replicate i.isLt, Vector.getElem_replicate i.isLt⟩, fun g => ?target, fun l => ?link, rfl⟩
    case target =>
      simp only [← isUp_iff]
      exact htargets g
    case link =>
      refine (queued_link ..).trans ?_
      have hlink := hlinks l
      dsimp only at hlink ⊢
      rw [hlink]
      unfold voidFrames
      cases htarget : linkTarget l with
      | none => rfl
      | some g =>
        cases hoffer : s.targets[g].offer <;> simp only [Option.bind_some, hoffer] <;> rfl

end Sys2Proof.Proofs
end

section
/-! MASK and UNMASK (R68 to R70): the flags of a range set and cleared index by index, their counts, and how the acts
of two steps add up. -/

open Sys2Proof Sys2Proof.Machine

namespace Sys2Proof.Proofs

/-! ## The flags of a range -/

/-- The mask map with the flags of the indexes from `lo` to below `top` set to `x`. -/
def flagged (x : Bool) (lo top : Nat) (m : Vector Bool 512) : Vector Bool 512 :=
  Vector.ofFn fun i => if lo ≤ i.val ∧ i.val < top then x else m[i]

/-- How many flags of the indexes from `lo` to below `top` are `x`. -/
def flagCount (x : Bool) (lo top : Nat) (m : Vector Bool 512) : Nat :=
  ((List.finRange 512).filter fun i => decide (lo ≤ i.val) && decide (i.val < top) && m[i] == x).length

theorem flagged_get (x : Bool) (lo top : Nat) (m : Vector Bool 512) (i : Index) :
    (flagged x lo top m)[i] = if lo ≤ i.val ∧ i.val < top then x else m[i] :=
  Vector.getElem_ofFn i.isLt

theorem flags_ext {a b : Vector Bool 512} (h : ∀ i : Index, a[i] = b[i]) : a = b :=
  Vector.ext fun i hi => h ⟨i, hi⟩

theorem flagged_empty (x : Bool) {lo top : Nat} (h : top ≤ lo) (m : Vector Bool 512) : flagged x lo top m = m :=
  flags_ext fun i => (flagged_get ..).trans (if_neg (by omega))

theorem flagged_next (x : Bool) {lo top : Nat} (h : lo < top) (m : Vector Bool 512) {i : Index} (hi : i.val = lo) :
    flagged x (lo + 1) top (m.set i x) = flagged x lo top m := by
  refine flags_ext fun j => ?_
  rw [flagged_get, flagged_get, vector_set_get]
  by_cases hj : j = i
  · subst hj
    rw [if_neg (by omega), if_pos rfl, if_pos (by omega)]
  · have hne : j.val ≠ lo := fun hlo => hj (Fin.ext (hlo.trans hi.symm))
    rw [if_neg hj]
    exact if_congr (by omega) rfl rfl

theorem flagCount_eq_card (x : Bool) (lo top : Nat) (m : Vector Bool 512) :
    flagCount x lo top m = (Finset.univ.filter fun i : Index => (lo ≤ i.val ∧ i.val < top) ∧ m[i] = x).card := by
  have hfilter : (Finset.univ.filter fun i : Index => (lo ≤ i.val ∧ i.val < top) ∧ m[i] = x) =
      ((List.finRange 512).filter fun i => decide (lo ≤ i.val) && decide (i.val < top) && m[i] == x).toFinset := by
    ext i
    simp
  rw [hfilter, List.toFinset_card_of_nodup ((List.nodup_finRange 512).filter _), flagCount]

theorem flagCount_empty (x : Bool) {lo top : Nat} (h : top ≤ lo) (m : Vector Bool 512) : flagCount x lo top m = 0 := by
  rw [flagCount_eq_card, Finset.card_eq_zero, Finset.filter_eq_empty_iff]
  rintro i - ⟨hin, -⟩
  omega

/-- The count of a range is that of its first index and that of the rest, which the first index's flag does not
matter to. -/
theorem flagCount_next (x y : Bool) {lo top : Nat} (h : lo < top) (m : Vector Bool 512) {i : Index} (hi : i.val = lo) :
    (if m[i] = x then 1 else 0) + flagCount x (lo + 1) top (m.set i y) = flagCount x lo top m := by
  rw [flagCount_eq_card, flagCount_eq_card]
  have hrest : (Finset.univ.filter fun j : Index => (lo + 1 ≤ j.val ∧ j.val < top) ∧ (m.set i y)[j] = x) =
      (Finset.univ.filter fun j : Index => (lo ≤ j.val ∧ j.val < top) ∧ m[j] = x).erase i := by
    ext j
    rw [Finset.mem_filter, Finset.mem_erase, Finset.mem_filter, vector_set_get]
    by_cases hj : j = i
    · subst hj
      simp only [hi, Nat.not_succ_le_self, false_and, and_false, ne_eq, not_true_eq_false]
    · have hne : j.val ≠ lo := fun hlo => hj (Fin.ext (hlo.trans hi.symm))
      rw [if_neg hj]
      simp only [Finset.mem_univ, true_and, ne_eq, hj, not_false_eq_true]
      exact and_congr_left' (by omega)
  rw [hrest]
  by_cases hx : m[i] = x
  · have hmem : i ∈ Finset.univ.filter fun j : Index => (lo ≤ j.val ∧ j.val < top) ∧ m[j] = x :=
      Finset.mem_filter.2 ⟨Finset.mem_univ i, by omega, hx⟩
    rw [if_pos hx, Finset.card_erase_of_mem hmem]
    have := Finset.card_pos.2 ⟨i, hmem⟩
    omega
  · have hmem : i ∉ Finset.univ.filter fun j : Index => (lo ≤ j.val ∧ j.val < top) ∧ m[j] = x :=
      fun hi => hx (Finset.mem_filter.1 hi).2.2
    rw [if_neg hx, Finset.erase_eq_of_notMem hmem, Nat.zero_add]

/-! ## The range of a request (R68, R70, R200) -/

theorem readRange_some {first last : Index} (h : first ≤ last) :
    readRange (BitVec.ofNat 16 first.val) (BitVec.ofNat 16 last.val) = some (first, last) := by
  have hval (i : Index) : inRange 512 (BitVec.ofNat 16 i.val).toNat = some i :=
    inRange_val (by rw [BitVec.toNat_ofNat, Nat.mod_eq_of_lt (by omega)])
  simp only [readRange, hval, if_pos h]

theorem range_operands (first last : Half) :
    bytesOf 2 first ++ bytesOf 2 last =
      [first.extractLsb' 8 8, first.extractLsb' 0 8, last.extractLsb' 8 8, last.extractLsb' 0 8] := rfl

/-- An UNMASK with its range yet to be taken. -/
def unmaskStart (r : Request) (first last : Index) : UnmaskRun :=
  { request := r, next := first.val, last := last, cleared := 0, placed := 0, refused := 0, presented := none }

theorem startMask_range {s : State} {r : Request} {first last : Index}
    (hoperands : r.operands = bytesOf 2 (BitVec.ofNat 16 first.val) ++ bytesOf 2 (BitVec.ofNat 16 last.val))
    (h : first ≤ last) :
    State.startMask r s =
      { s with current := some (.mask { request := r, next := first, last := last, newly := 0 }) } := by
  rw [range_operands] at hoperands
  simp only [State.startMask, hoperands, half_of_bytes, readRange_some h]

theorem startUnmask_range {s : State} {r : Request} {first last : Index}
    (hoperands : r.operands = bytesOf 2 (BitVec.ofNat 16 first.val) ++ bytesOf 2 (BitVec.ofNat 16 last.val))
    (h : first ≤ last) (pace : Nat) : State.startUnmask pace r s = s.unmaskOn (unmaskStart r first last) pace := by
  rw [range_operands] at hoperands
  simp only [State.startUnmask, hoperands, half_of_bytes, readRange_some h]
  rfl

/-! ## The steps of a MASK (R68, R69) -/

theorem exec_maskRange_next {s : State} {m : MaskRun} (hload : s.loading = false) (h : s.current = some (.mask m)) :
    exec .maskRange s = .next (s.maskNext m) := by
  change execMaskRange s = _
  simp only [execMaskRange, h, hload, if_neg Bool.false_ne_true]

theorem answer_plain (s : State) (r : Request) (results : List Byte) :
    s.answer r (.ok (plain results)) false =
      s.answeredIn r.link r.session (.response r.sequence .ok results) := by
  rw [State.answer_eq_answeredIn _ _ (hasUnnamed_plain _)]
  simp only [Reply.ok, render_plain]

theorem flagCount_mask (m : Vector Bool 512) (next : Index) {top : Nat} (h : next.val < top) (newly : Nat) :
    (newly + if m[next] then 0 else 1) + flagCount false (next.val + 1) top (m.set next true) =
      newly + flagCount false next.val top m := by
  rw [← flagCount_next false true h m rfl, Nat.add_assoc]
  cases m[next] <;> rfl

/-- The steps that are left of a MASK set the flags of the rest of its range, and the last one answers. -/
theorem mask_repeated {n : Nat} {s : State} {m : MaskRun} (hload : s.loading = false)
    (hcurrent : s.current = some (.mask m)) (hn : m.next.val + n = m.last.val) :
    s.repeated .maskRange (n + 1) =
      ({ s with maskMap := flagged true m.next.val (m.last.val + 1) s.maskMap, current := none } : State).answeredIn
        m.request.link m.request.session
        (.response m.request.sequence .ok
          (bytesOf 2 (BitVec.ofNat 16 (m.newly + flagCount false m.next.val (m.last.val + 1) s.maskMap)))) := by
  induction n generalizing s m with
  | zero =>
    have hlast : m.next = m.last := Fin.ext hn
    rw [repeated_succ (exec_maskRange_next hload hcurrent), State.maskNext_last hlast, answer_plain,
      ← flagCount_mask s.maskMap m.next (by omega) m.newly,
      ← flagged_next true (by omega) s.maskMap (i := m.next) rfl, flagged_empty true (by omega),
      flagCount_empty false (by omega)]
    rfl
  | succ n ih =>
    have hnext : m.next.val + 1 < 512 := by omega
    rw [repeated_succ (exec_maskRange_next hload hcurrent),
      State.maskNext_before (i := ⟨m.next.val + 1, hnext⟩) rfl (Fin.le_def.2 (by simp only; omega)),
      ih (s := { s with
          maskMap := s.maskMap.set m.next true
          current := some (.mask { m with
            next := ⟨m.next.val + 1, hnext⟩, newly := m.newly + if s.maskMap[m.next] then 0 else 1 }) })
        (m := { m with
        next := ⟨m.next.val + 1, hnext⟩, newly := m.newly + if s.maskMap[m.next] then 0 else 1 }) hload rfl
        (by simp only; omega),
      ← flagCount_mask s.maskMap m.next (by omega) m.newly,
      ← flagged_next true (by omega) s.maskMap (i := m.next) rfl]

/-! ## The acts of an UNMASK (R70) -/

/-- An UNMASK of which the indexes below `next` are taken, and had `cleared` flags more. -/
def UnmaskRun.through (u : UnmaskRun) (next cleared : Nat) : UnmaskRun :=
  { u with next := next, cleared := u.cleared + cleared }

theorem flagCount_unmask (m : Vector Bool 512) (next : Index) {top : Nat} (h : next.val < top) (cleared : Nat) :
    (cleared + if m[next] then 1 else 0) + flagCount true (next.val + 1) top (m.set next false) =
      cleared + flagCount true next.val top m := by
  rw [← flagCount_next true false h m rfl, Nat.add_assoc]

/-- An act that comes upon no latch clears one flag. -/
theorem unmaskOn_clear {s : State} {u : UnmaskRun} {i : Index} (hpresented : u.presented = none) (hi : i.val = u.next)
    (hlast : i ≤ u.last) (hnone : s.latches[i] = none) (pace : Nat) :
    s.unmaskOn u (pace + 1) =
      ({ s with maskMap := s.maskMap.set i false } : State).unmaskOn
        (UnmaskRun.through u (i.val + 1) (if s.maskMap[i] then 1 else 0)) pace := by
  have hkept : s.latches.set i none = s.latches := by
    rw [← hnone]
    exact Vector.set_getElem_self i.isLt
  have htaken : s.takeIndex u i =
      ({ s with maskMap := s.maskMap.set i false },
        UnmaskRun.through u (i.val + 1) (if s.maskMap[i] then 1 else 0)) := by
    simp only [State.takeIndex, hkept, hnone, Option.map_none, UnmaskRun.through, ← hpresented]
  rw [State.unmaskOn_index s hpresented hi.symm hlast, htaken]

/-- Acts that come upon no latch clear their flags. -/
theorem unmaskOn_unlatched {n : Nat} {s : State} {u : UnmaskRun} (hpresented : u.presented = none)
    (hn : u.next + n ≤ u.last.val + 1)
    (hlatches : ∀ i : Index, u.next ≤ i.val → i.val < u.next + n → s.latches[i] = none) (pace : Nat) :
    s.unmaskOn u (n + pace) =
      ({ s with maskMap := flagged false u.next (u.next + n) s.maskMap } : State).unmaskOn
        (UnmaskRun.through u (u.next + n) (flagCount true u.next (u.next + n) s.maskMap)) pace := by
  induction n generalizing s u with
  | zero =>
    rw [Nat.zero_add, Nat.add_zero, flagged_empty _ (le_refl _), flagCount_empty _ (le_refl _)]
    rfl
  | succ n ih =>
    obtain ⟨i, hi⟩ : ∃ i : Index, i.val = u.next := ⟨⟨u.next, by omega⟩, rfl⟩
    rw [Nat.add_right_comm, unmaskOn_clear hpresented hi (Fin.le_def.2 (by omega)) (hlatches i (by omega) (by omega)),
      ih (u := UnmaskRun.through u (i.val + 1) (if s.maskMap[i] then 1 else 0))
        (s := { s with maskMap := s.maskMap.set i false }) hpresented (by simp only [UnmaskRun.through]; omega)
        (fun j hlow hhigh => hlatches j (by simp only [UnmaskRun.through] at hlow; omega)
          (by simp only [UnmaskRun.through] at hhigh; omega))]
    have htop : i.val + 1 + n = u.next + (n + 1) := by omega
    simp only [UnmaskRun.through, htop]
    rw [flagged_next false (by omega) s.maskMap rfl, flagCount_unmask s.maskMap i (by omega), hi]

/-- At a latch the acts remove it and present its release; none follows. -/
theorem unmaskOn_latched {n : Nat} {s : State} {u : UnmaskRun} {k : Index} {o : Origin} (hpresented : u.presented = none)
    (hk : u.next + n = k.val) (hlast : k ≤ u.last) (hlatch : s.latches[k] = some o)
    (hlatches : ∀ i : Index, u.next ≤ i.val → i < k → s.latches[i] = none) (pace : Nat) :
    s.unmaskOn u (n + (pace + 1)) =
      { s with
        maskMap := flagged false u.next (k.val + 1) s.maskMap
        latches := s.latches.set k none
        current := some (.unmask
          { UnmaskRun.through u (k.val + 1) (flagCount true u.next (k.val + 1) s.maskMap) with
            presented := some { index := k, origin := o } }) } := by
  induction n generalizing s u with
  | zero =>
    rw [Nat.add_zero] at hk
    have hflags : flagged false u.next (k.val + 1) s.maskMap = s.maskMap.set k false := by
      rw [← flagged_next false (by omega) s.maskMap (i := k) hk.symm, flagged_empty false (Nat.succ_le_succ hk.ge)]
    have hcount : flagCount true u.next (k.val + 1) s.maskMap = if s.maskMap[k] then 1 else 0 := by
      rw [← flagCount_next true false (by omega) s.maskMap (i := k) hk.symm, flagCount_empty true (Nat.succ_le_succ hk.ge),
        Nat.add_zero]
    rw [Nat.zero_add, State.unmaskOn_index s hpresented hk hlast,
      State.unmaskOn_waiting _ (by simp [State.takeIndex, hlatch]), hflags, hcount]
    simp only [State.takeIndex, hlatch, Option.map_some, UnmaskRun.through]
  | succ n ih =>
    rw [Fin.le_def] at hlast
    obtain ⟨i, hi⟩ : ∃ i : Index, i.val = u.next := ⟨⟨u.next, by omega⟩, rfl⟩
    rw [Nat.add_right_comm, unmaskOn_clear hpresented hi (Fin.le_def.2 (by omega))
        (hlatches i (by omega) (Fin.lt_def.2 (by omega))),
      ih (u := UnmaskRun.through u (i.val + 1) (if s.maskMap[i] then 1 else 0))
        (s := { s with maskMap := s.maskMap.set i false }) hpresented (by simp only [UnmaskRun.through]; omega)
        (Fin.le_def.2 hlast) hlatch
        (fun j hlow hhigh => hlatches j (by simp only [UnmaskRun.through] at hlow; omega) hhigh)]
    simp only [UnmaskRun.through]
    rw [flagged_next false (by omega) s.maskMap rfl, flagCount_unmask s.maskMap i (by omega)]
    simp only [hi]

/-! ## The acts of two steps add up (R70, notes/assumptions/4.md) -/

theorem unmaskOn_current (s : State) (u : UnmaskRun) (c : Option CurrentRequest) (pace : Nat) :
    ({ s with current := c } : State).unmaskOn u pace = s.unmaskOn u pace := by
  induction pace generalizing s u with
  | zero => rfl
  | succ pace ih =>
    unfold State.unmaskOn
    split
    · rfl
    · split
      · exact ih (s.takeIndex u _).1 _
      · rfl

theorem exec_unmaskRange_current {s : State} {u : UnmaskRun} (hload : s.loading = false)
    (hcurrent : s.current = some (.unmask u)) (pace : Nat) :
    exec (.unmaskRange pace) s = .next (s.unmaskOn u pace) := by
  change execUnmaskRange pace s = _
  simp only [execUnmaskRange, hcurrent, hload, Bool.or_false]
  by_cases hwaits : u.presented.isSome = true
  · rw [if_pos hwaits, State.unmaskOn_waiting s hwaits, ← hcurrent]
  · rw [if_neg hwaits]

theorem exec_unmaskRange_waits {s : State} {u : UnmaskRun} {latch : Latch} (hcurrent : s.current = some (.unmask u))
    (hlatch : u.presented = some latch) (pace : Nat) : exec (.unmaskRange pace) s = .next s := by
  change execUnmaskRange pace s = _
  simp only [execUnmaskRange, hcurrent, hlatch, Option.isSome_some, Bool.true_or, if_pos]

theorem unmaskAnswered_current (s : State) (u : UnmaskRun) : (s.unmaskAnswered u).current = none := by
  unfold State.unmaskAnswered State.answeredIn
  split <;> rfl

theorem unmaskOn_add {s : State} (hload : s.loading = false) (u : UnmaskRun) (p q : Nat) :
    Host.Outcome.next (s.unmaskOn u (p + q)) =
      if (s.unmaskOn u p).current = none then Host.Outcome.next (s.unmaskOn u p)
      else exec (.unmaskRange q) (s.unmaskOn u p) := by
  induction p generalizing s u with
  | zero =>
    rw [Nat.zero_add, State.unmaskOn_zero, if_neg (by simp),
      exec_unmaskRange_current (s := { s with current := some (.unmask u) }) hload rfl]
    exact congrArg Host.Outcome.next (unmaskOn_current s u (some (.unmask u)) q).symm
  | succ p ih =>
    rw [Nat.add_right_comm]
    by_cases hdone : u.done = true
    · rw [State.unmaskOn_done s hdone, State.unmaskOn_done s hdone, if_pos (unmaskAnswered_current s u)]
    · rw [State.unmaskOn, State.unmaskOn, if_neg hdone, if_neg hdone]
      split
      · exact ih (s := (s.takeIndex u _).1) hload _
      · next hstuck =>
        rw [if_neg (by simp), exec_unmaskRange_current (s := { s with current := some (.unmask u) }) hload rfl]
        refine congrArg Host.Outcome.next (Eq.trans ?_ (unmaskOn_current s u (some (.unmask u)) q).symm)
        cases q with
        | zero => rfl
        | succ q =>
          rw [State.unmaskOn, if_neg hdone]
          split
          · next i hnone hi => exact absurd hi (hstuck i hnone)
          · rfl

theorem startUnmask_cases (r : Request) (s : State) :
    (∃ status, ∀ pace, State.startUnmask pace r s = s.answer r (.fail status) false) ∨
      ∃ u, ∀ pace, State.startUnmask pace r s = s.unmaskOn u pace := by
  unfold State.startUnmask
  split
  · split
    · exact .inr ⟨_, fun _ => rfl⟩
    · exact .inl ⟨_, fun _ => rfl⟩
  · exact .inl ⟨_, fun _ => rfl⟩

theorem exec_unmaskRange_add {s b : State} {p q : Nat}
    (h : (∃ r operands, Granted s .unmask r operands) ∨ ∃ u, s.current = some (.unmask u))
    (hb : exec (.unmaskRange p) s = .next b) :
    exec (.unmaskRange (p + q)) s = if b.current = none then .next b else exec (.unmaskRange q) b := by
  rcases h with ⟨r, operands, hg⟩ | ⟨u, hcurrent⟩
  · have hexec (pace : Nat) : exec (.unmaskRange pace) s = .next (State.startUnmask pace r (dequeued s)) :=
      exec_granted pace hg
    obtain ⟨hload, hidle⟩ := nextRequest_idle (nextRequest_of_takenFor (by decide) hg.1.1)
    rw [hexec] at hb
    cases hb
    rw [hexec]
    rcases startUnmask_cases r (dequeued s) with ⟨status, hfail⟩ | ⟨u, hon⟩
    · have hnone : ((dequeued s).answer r (.fail status) false).current = none := by
        rw [fail_asked hg.1]
        exact hidle
      rw [hfail, hfail, if_pos hnone]
    · rw [hon, hon]
      exact unmaskOn_add (s := dequeued s) hload u p q
  · cases hload : s.loading with
    | true =>
      have hexec (pace : Nat) : exec (.unmaskRange pace) s = .next s := by
        change execUnmaskRange pace s = _
        simp only [execUnmaskRange, hcurrent, hload, Bool.or_true, if_pos]
      rw [hexec] at hb
      cases hb
      rw [hexec, hexec, ite_self]
    | false =>
      rw [exec_unmaskRange_current hload hcurrent] at hb ⊢
      cases hb
      exact unmaskOn_add hload u p q

/-! ## The requests as they are taken -/

theorem between_iff {first last i : Index} : (first.val ≤ i.val ∧ i.val < last.val + 1) ↔ first ≤ i ∧ i ≤ last := by
  rw [Fin.le_def, Fin.le_def, Nat.lt_succ_iff]

theorem flagged_between (x : Bool) (first last : Index) (m : Vector Bool 512) (i : Index) :
    (flagged x first.val (last.val + 1) m)[i] = if first ≤ i ∧ i ≤ last then x else m[i] :=
  (flagged_get ..).trans (if_congr between_iff rfl rfl)

theorem flagCount_clear (first last : Index) (m : Vector Bool 512) :
    flagCount false first.val (last.val + 1) m =
      ((List.finRange 512).filter fun i => decide (first ≤ i) && decide (i ≤ last) && !m[i]).length := by
  unfold flagCount
  refine congrArg List.length (List.filter_congr fun i _ => ?_)
  rw [← Bool.decide_and, ← Bool.decide_and, decide_eq_decide.2 between_iff, beq_false]

theorem flagCount_set (first last : Index) (m : Vector Bool 512) :
    flagCount true first.val (last.val + 1) m =
      ((List.finRange 512).filter fun i => decide (first ≤ i) && decide (i ≤ last) && m[i]).length := by
  unfold flagCount
  refine congrArg List.length (List.filter_congr fun i _ => ?_)
  rw [← Bool.decide_and, ← Bool.decide_and, decide_eq_decide.2 between_iff, beq_true]

section

variable {s : State} {r : Request} {first last : Index}

/-- The operands that name a range (11.3). -/
def rangeOperands (first last : Index) : List Byte :=
  bytesOf 2 (BitVec.ofNat 16 first.val) ++ bytesOf 2 (BitVec.ofNat 16 last.val)

/-- A response after the flags of a range have changed. -/
theorem answered_remasked (hup : s.isUp r.link = true) (hsession : s.links[r.link].session = r.session)
    (flags : Vector Bool 512) (results : List Byte) :
    (dequeued { s with maskMap := flags }).answeredIn r.link r.session (.response r.sequence .ok results) =
      ({ s with maskMap := flags } : State).responded r .ok results :=
  answeredIn_live (s := dequeued { s with maskMap := flags }) hup hsession _

theorem mask_taken (hg : Granted s .mask r (rangeOperands first last)) (hle : first ≤ last) :
    exec .maskRange s =
        .next { s with
          queue := s.queue.tail
          current := some (.mask { request := r, next := first, last := last, newly := 0 }) } ∧
      ∃ flags : Vector Bool 512,
        (∀ i : Index, flags[i] = if first ≤ i ∧ i ≤ last then true else s.maskMap[i]) ∧
        s.repeated .maskRange (last.val - first.val + 2) =
          ({ s with maskMap := flags } : State).responded r .ok
            (bytesOf 2 (BitVec.ofNat 16 ((List.finRange 512).filter fun i =>
              decide (first ≤ i) && decide (i ≤ last) && !s.maskMap[i]).length)) := by
  have hstart : exec .maskRange s =
      .next { dequeued s with current := some (.mask { request := r, next := first, last := last, newly := 0 }) } :=
    (exec_granted 0 hg).trans (congrArg Host.Outcome.next (startMask_range (s := dequeued s) hg.2.1 hle))
  obtain ⟨⟨htaken, -, hup, hsession⟩, -, -⟩ := hg
  obtain ⟨hload, hidle⟩ := nextRequest_idle (nextRequest_of_takenFor (by decide) htaken)
  refine ⟨hstart, flagged true first.val (last.val + 1) s.maskMap, fun i => flagged_between .., ?_⟩
  rw [Fin.le_def] at hle
  have hrun := mask_repeated (n := last.val - first.val) (s := { s with
      queue := s.queue.tail
      current := some (.mask { request := r, next := first, last := last, newly := 0 }) })
    (m := { request := r, next := first, last := last, newly := 0 }) hload rfl (by simp only; omega)
  rw [Nat.zero_add, flagCount_clear, ← hidle] at hrun
  exact ((repeated_succ hstart _).trans hrun).trans (answered_remasked hup hsession _ _)

theorem exec_unmaskRange_granted (hg : Granted s .unmask r (rangeOperands first last)) (hle : first ≤ last) (pace : Nat) :
    exec (.unmaskRange pace) s = .next ((dequeued s).unmaskOn (unmaskStart r first last) pace) :=
  (exec_granted pace hg).trans (congrArg Host.Outcome.next (startUnmask_range (s := dequeued s) hg.2.1 hle pace))

theorem unmask_unlatched (hg : Granted s .unmask r (rangeOperands first last)) (hle : first ≤ last) {pace : Nat}
    (hpace : last.val - first.val + 1 < pace) (hlatches : ∀ i : Index, first ≤ i → i ≤ last → s.latches[i] = none) :
    ∃ flags : Vector Bool 512,
      (∀ i : Index, flags[i] = if first ≤ i ∧ i ≤ last then false else s.maskMap[i]) ∧
      exec (.unmaskRange pace) s =
        .next (({ s with maskMap := flags } : State).responded r .ok
          (bytesOf 2 (BitVec.ofNat 16 ((List.finRange 512).filter fun i =>
            decide (first ≤ i) && decide (i ≤ last) && s.maskMap[i]).length) ++ [0, 0, 0, 0])) := by
  have hexec := exec_unmaskRange_granted hg hle pace
  obtain ⟨⟨htaken, -, hup, hsession⟩, -, -⟩ := hg
  obtain ⟨-, hidle⟩ := nextRequest_idle (nextRequest_of_takenFor (by decide) htaken)
  refine ⟨flagged false first.val (last.val + 1) s.maskMap, fun i => flagged_between .., hexec.trans ?_⟩
  rw [Fin.le_def] at hle
  obtain ⟨n, hn⟩ : ∃ n, n = last.val + 1 - first.val := ⟨_, rfl⟩
  obtain ⟨extra, rfl⟩ : ∃ extra, pace = n + (extra + 1) := ⟨pace - n - 1, by omega⟩
  have htop : first.val + n = last.val + 1 := by omega
  have hrun := unmaskOn_unlatched (n := n) (s := dequeued s) (u := unmaskStart r first last) rfl
    (by simp only [unmaskStart]; omega)
    (fun i hlow hhigh => hlatches i (Fin.le_def.2 hlow) (Fin.le_def.2 (by simp only [unmaskStart] at hhigh; omega)))
    (extra + 1)
  simp only [unmaskStart, htop] at hrun ⊢
  rw [State.unmaskOn_done _ (by simp [UnmaskRun.done, UnmaskRun.through]), State.unmaskAnswered] at hrun
  simp only [UnmaskRun.through, Nat.zero_add] at hrun
  refine congrArg Host.Outcome.next (hrun.trans ?_)
  rw [← hidle, ← flagCount_set]
  exact answered_remasked hup hsession _ _

theorem unmask_latched (hg : Granted s .unmask r (rangeOperands first last)) (hle : first ≤ last) {pace : Nat}
    {k : Index} {o : Origin} (hlow : first ≤ k) (hhigh : k ≤ last) (hpace : k.val - first.val < pace)
    (hlatch : s.latches[k] = some o) (hbefore : ∀ i : Index, first ≤ i → i < k → s.latches[i] = none) :
    ∃ flags : Vector Bool 512,
      (∀ i : Index, flags[i] = if first ≤ i ∧ i ≤ k then false else s.maskMap[i]) ∧
      exec (.unmaskRange pace) s =
        .next { s with
          queue := s.queue.tail
          maskMap := flags
          latches := s.latches.set k none
          current := some (.unmask
            { request := r
              next := k.val + 1
              last := last
              cleared := ((List.finRange 512).filter fun i =>
                decide (first ≤ i) && decide (i ≤ k) && s.maskMap[i]).length
              placed := 0
              refused := 0
              presented := some { index := k, origin := o } }) } := by
  refine ⟨flagged false first.val (k.val + 1) s.maskMap, fun i => flagged_between ..,
    (exec_unmaskRange_granted hg hle pace).trans (congrArg Host.Outcome.next ?_)⟩
  rw [Fin.le_def] at hlow
  obtain ⟨n, hn⟩ : ∃ n, n = k.val - first.val := ⟨_, rfl⟩
  obtain ⟨extra, rfl⟩ : ∃ extra, pace = n + (extra + 1) := ⟨pace - n - 1, by omega⟩
  have hrun := unmaskOn_latched (n := n) (s := dequeued s) (u := unmaskStart r first last) (k := k) (o := o) rfl
    (by simp only [unmaskStart]; omega) hhigh hlatch (fun i hlow hlt => hbefore i (Fin.le_def.2 hlow) hlt) extra
  simp only [unmaskStart, UnmaskRun.through, Nat.zero_add] at hrun ⊢
  rw [← flagCount_set]
  exact hrun

end

/-- Settles O59: bad ranges, MASK and UNMASK as taken, one step of each, and the sum of two paces. -/
theorem maskRangesAreSetAndCleared : Obligations.MaskRangesAreSetAndCleared := by
  refine ⟨fun s r first last pace hbad => ?bad, fun s r first last => ?taken, fun s m hload hcurrent => ?flag,
    fun s u i hload hcurrent hpresented hi hlast => ?index, fun s u hload hcurrent hpresented hlast => ?done,
    fun s u latch pace hcurrent hlatch => exec_unmaskRange_waits hcurrent hlatch pace,
    fun s b p q h hb => exec_unmaskRange_add h hb⟩
  case bad =>
    have hbad' := hbad
    rw [← half_of_bytes first, ← half_of_bytes last] at hbad'
    refine ⟨fun hg => ?_, fun hg => ?_⟩
    · rw [show exec .maskRange s = _ from exec_granted 0 hg]
      exact congrArg Host.Outcome.next
        ((startMask_badIndex (s := dequeued s) (hg.2.1.trans (range_operands ..)) hbad').trans (fail_asked hg.1 _))
    · rw [show exec (.unmaskRange pace) s = _ from exec_granted pace hg]
      exact congrArg Host.Outcome.next
        ((startUnmask_badIndex (s := dequeued s) pace (hg.2.1.trans (range_operands ..)) hbad').trans
          (fail_asked hg.1 _))
  case taken =>
    intro operands hle
    refine ⟨fun hg => mask_taken hg hle, fun hg => ⟨?_, fun pace => ⟨fun hpace hlatches => ?_,
      fun k o hlow hhigh hpace hlatch hbefore => ?_⟩⟩⟩
    · rw [exec_unmaskRange_granted hg hle, State.unmaskOn_zero]
      rfl
    · exact unmask_unlatched hg hle hpace hlatches
    · exact unmask_latched hg hle hlow hhigh hpace hlatch hbefore
  case flag =>
    intro b newly
    rw [exec_maskRange_next hload hcurrent]
    refine ⟨fun i hi hlast => ?_, fun hlast => ?_⟩
    · rw [State.maskNext_before hi hlast]
    · rw [State.maskNext_last hlast, answer_plain]
  case index =>
    intro b v
    rw [exec_unmaskRange_current hload hcurrent, State.unmaskOn_index s hpresented hi hlast]
    rfl
  case done =>
    rw [exec_unmaskRange_current hload hcurrent, State.unmaskOn_done]
    simp [UnmaskRun.done, hpresented, hlast]

end Sys2Proof.Proofs
end

section
/-! The steps of an arrival (chapter 3): the lookup, and the arrivals that are refused (R46 to R50, R56, R57) or
latched (R49, R66). -/

open Sys2Proof Sys2Proof.Machine

namespace Sys2Proof.Proofs

/-! ## The lookup (R45, R48) -/

theorem arrive_reached {s : State} {a : Arrival} {i : Index} (h : Reaches s a.origin i) (order : List TargetNo) :
    s.arrive a order = s.arriveAt a order i s.activeBank.entries[i] := by
  obtain ⟨hin, hi⟩ := h
  have hindex : s.activeBank.windows[a.origin.source].index a.origin.event = some i := by
    rw [Window.index, if_pos hin, inRange_val hi]
  simp only [State.arrive, hindex]

theorem arrive_outOfWindow {s : State} {a : Arrival}
    (h : s.activeBank.windows[a.origin.source].size.val ≤ a.origin.event.toNat) (order : List TargetNo) :
    s.arrive a order =
      s.refuseArrival a.origin .outOfWindow none none s.activeBank.windows[a.origin.source].size.val := by
  have hindex : s.activeBank.windows[a.origin.source].index a.origin.event = none := if_neg (not_lt.2 h)
  simp only [State.arrive, hindex]

theorem arriveAt_masked {s : State} {i : Index} (h : s.maskMap[i] = true) (a : Arrival) (order : List TargetNo)
    (e : Entry) : s.arriveAt a order i e = ({ s with latches := s.latches.set i (some a.origin) }, .latched) := if_pos h

/-! ## The tests of an arrival (R50, R55 to R57) -/

theorem chosenTargets_pairwise_lt (s : State) (i : Index) (e : Entry) : (s.chosenTargets i e).Pairwise (· < ·) := by
  unfold State.chosenTargets
  split
  · exact (members_pairwise_lt e).sublist (List.take_sublist ..)
  · exact members_pairwise_lt e
  · dsimp only
    cases (searchOrder e.members s.pointers[i]).find? s.qualifies <;>
      cases (searchOrder e.members s.pointers[i]).head? <;> simp

theorem newRecordsNeeded_eq (s : State) (i : Index) :
    s.newRecordsNeeded i s.activeBank.entries[i] (s.chosenTargets i s.activeBank.entries[i]) = s.neededAt i := by
  unfold State.newRecordsNeeded State.neededAt
  refine congrArg List.length (List.filter_congr fun t _ => ?_)
  rw [Bool.eq_iff_iff, Option.isNone_iff_eq_none, coalesceWith_none_iff, Bool.or_eq_true, beq_iff_eq,
    List.isEmpty_iff, List.length_eq_zero_iff, or_comm]

theorem fullTarget_none {s : State} {i : Index} (h : Admitted s i) :
    s.fullTarget i s.activeBank.entries[i] (s.chosenTargets i s.activeBank.entries[i]) = none := by
  obtain ⟨-, -, hlimit⟩ := h
  unfold State.fullTarget
  split
  · next hmode =>
    rw [List.find?_eq_none]
    intro t ht
    simpa using hlimit hmode t ht
  · rfl

theorem fullTarget_some {s : State} {i : Index} {e : Entry} {g : TargetNo} (hmode : e.mode = .queue)
    (hg : g ∈ s.chosenTargets i e) (hfull : e.queueLimit.val ≤ s.queueCount g i)
    (hfirst : ∀ u ∈ s.chosenTargets i e, u < g → s.queueCount u i < e.queueLimit.val) :
    s.fullTarget i e (s.chosenTargets i e) = some g := by
  rw [State.fullTarget, if_pos hmode]
  cases hfind : (s.chosenTargets i e).find? fun t => e.queueLimit.val ≤ s.queueCount t i with
  | none => exact absurd hfull (by simpa using List.find?_eq_none.1 hfind g hg)
  | some t =>
    have hle : t.val ≤ g.val :=
      find_le_of_pairwise_lt (f := Fin.val) (chosenTargets_pairwise_lt s i e) hfind hg (decide_eq_true hfull)
    have hnot : ¬ t < g := fun hlt =>
      not_le.2 (hfirst t (List.mem_of_find?_eq_some hfind) hlt) (by simpa using List.find?_some hfind)
    rw [Fin.lt_def] at hnot
    exact congrArg some (Fin.ext (by omega))

/-- What an arrival of a kind leaves free in the pool (R26, R57). -/
def reserveOf (kind : ArrivalKind) : Nat :=
  if kind = .internal then 0 else 8

theorem poolAdmits_iff (s : State) (kind : ArrivalKind) (k : Nat) :
    s.poolAdmits kind k = true ↔ k = 0 ∨ k + reserveOf kind ≤ s.freeCount := by
  unfold State.poolAdmits reserveOf
  rw [Bool.or_eq_true, beq_iff_eq, decide_eq_true_eq]
  split <;> rfl

theorem arriveAt_admitted {s : State} {i : Index} (h : Admitted s i) (a : Arrival) (order : List TargetNo) :
    s.arriveAt a order i s.activeBank.entries[i] =
      if s.poolAdmits a.kind (s.neededAt i) then
        (s.place i s.activeBank.entries[i] a.origin a.payload (s.chosenTargets i s.activeBank.entries[i]) order,
          .placed)
      else s.refuseArrival a.origin .poolFull none (some i) s.freeCount := by
  have hnone := fullTarget_none h
  obtain ⟨hmask, hvalid, -⟩ := h
  simp only [State.arriveAt, hmask, hvalid, hnone, newRecordsNeeded_eq, Bool.not_true, if_neg Bool.false_ne_true]

theorem arriveAt_placed {s : State} {i : Index} (h : Admitted s i) {a : Arrival}
    (hpool : s.neededAt i = 0 ∨ s.neededAt i + reserveOf a.kind ≤ s.freeCount) (order : List TargetNo) :
    s.arriveAt a order i s.activeBank.entries[i] =
      (s.place i s.activeBank.entries[i] a.origin a.payload (s.chosenTargets i s.activeBank.entries[i]) order,
        .placed) := by
  rw [arriveAt_admitted h, if_pos ((poolAdmits_iff ..).2 hpool)]

/-- A refusal at an index is that of the first test that fails. -/
theorem arriveAt_refused {s : State} {a : Arrival} {i : Index} {reason : RefusalReason} {t : Option TargetNo}
    {value : Nat} (h : RefusedAt s i (reserveOf a.kind) reason t value) (order : List TargetNo) :
    s.arriveAt a order i s.activeBank.entries[i] = s.refuseArrival a.origin reason t (some i) value := by
  obtain ⟨hmask, h⟩ := h
  cases reason with
  | outOfWindow => exact h.elim
  | unmapped =>
    obtain ⟨hvalid, rfl, rfl⟩ := h
    simp only [State.arriveAt, hmask, hvalid, Bool.not_false, if_neg Bool.false_ne_true, if_pos]
  | queueFull =>
    obtain ⟨hvalid, hmode, rfl, g, hg, rfl, hfull, hfirst⟩ := h
    have hsome := fullTarget_some hmode hg hfull hfirst
    simp only [State.arriveAt, hmask, hvalid, hsome, Bool.not_true, if_neg Bool.false_ne_true]
  | poolFull =>
    obtain ⟨hadmitted, rfl, rfl, hneeded, hfree⟩ := h
    rw [arriveAt_admitted hadmitted, if_neg]
    rw [poolAdmits_iff]
    omega

/-! ## The commands of the arrivals -/

theorem refusal_eq (o : Origin) (reason : RefusalReason) (t : Option TargetNo) (i : Option Index) (value : Nat) :
    refusal o reason t i value = refusalReport o reason t i value := by
  cases reason <;> rfl

section

variable {s : State} {n : SourceLink} {p : PassedEvent} {o : Origin}

/-- The arrival of an EVENT frame in progress. -/
def externalArrival (o : Origin) (p : PassedEvent) : Arrival :=
  { kind := .external, origin := o, payload := p.payload }

theorem origin_eq (hsource : o.source.val = n.val) (hevent : o.event = p.event) :
    ({ source := ⟨n.val, by omega⟩, event := p.event } : Origin) = o := by
  obtain ⟨source, event⟩ := o
  cases hevent
  exact congrArg (fun source => ({ source := source, event := p.event } : Origin)) (Fin.ext hsource.symm)

theorem exec_externalArrival_taken (hload : s.loading = false) (harriving : s.arriving[n] = some p) (order : List TargetNo) :
    exec (.externalArrival n order) s = .next (s.takeEvent n p order) := by
  change execExternalArrival n order s = _
  simp only [execExternalArrival, harriving, hload, if_neg Bool.false_ne_true]

theorem takeEvent_refused (hsource : o.source.val = n.val) (hevent : o.event = p.event) {order : List TargetNo}
    {reason : RefusalReason} {t : Option TargetNo} {i : Option Index} {value : Nat}
    (h : s.arrive (externalArrival o p) order = s.refuseArrival o reason t i value) :
    s.takeEvent n p order =
      ((s.report (refusalReport o reason t i value) false).answeredIn (sourceLink n) p.session
        (.nack reason p.event)).eventEnded n p := by
  have hexternal : o.isInternal = false := by
    rw [Origin.isInternal, beq_eq_false_iff_ne]
    rintro h12
    rw [h12] at hsource
    have := n.isLt
    omega
  rw [externalArrival, State.refuseArrival, hexternal, refusal_eq] at h
  simp only [State.takeEvent, origin_eq hsource hevent, h, State.handOver_eq_answeredIn, State.endEvent_eq]

theorem takeEvent_done (hsource : o.source.val = n.val) (hevent : o.event = p.event) {order : List TargetNo} {b : State}
    (h : s.arrive (externalArrival o p) order = (b, .placed) ∨ s.arrive (externalArrival o p) order = (b, .latched)) :
    s.takeEvent n p order = b.eventEnded n p := by
  unfold externalArrival at h
  rcases h with h | h <;> simp only [State.takeEvent, origin_eq hsource hevent, h, State.endEvent_eq]

/-- The arrival of a presented fault or event of the router. -/
def internalArrival (o : Origin) (x : Raised) : Arrival :=
  { kind := .internal, origin := o, payload := [x.payload] }

theorem exec_internalArrival_taken {x : Raised} (hload : s.loading = false) (hpresented : s.presented = some x)
    (hsource : o.source = 12) (hevent : o.event = BitVec.ofNat 8 x.event.number) (order : List TargetNo) :
    exec (.internalArrival order) s =
      .next (({ s with presented := none } : State).arrive (internalArrival o x) order).1 := by
  obtain ⟨source, event⟩ := o
  cases hsource
  cases hevent
  change execInternalArrival order s = .next (s.takeRaised x order)
  unfold execInternalArrival
  rw [hpresented]
  dsimp only
  rw [hload, if_neg Bool.false_ne_true]

/-- The arrival of a release that is presented. -/
def releaseArrival (o : Origin) : Arrival :=
  { kind := .release, origin := o, payload := [] }

theorem exec_release {u : UnmaskRun} {latch : Latch} (hload : s.loading = false) (hcurrent : s.current = some (.unmask u))
    (hlatch : u.presented = some latch) {b : State} {outcome : ArrivalOutcome} {order : List TargetNo}
    (h : s.arriveAt (releaseArrival latch.origin) order latch.index s.activeBank.entries[latch.index] = (b, outcome))
    (pace : Nat) : exec (.release order pace) s = .next (b.unmaskOn (u.count outcome) pace) := by
  change execRelease order pace s = _
  unfold releaseArrival at h
  simp only [execRelease, hcurrent, hlatch, hload, if_neg Bool.false_ne_true, h]

end

/-- Settles O36: the refusal of the lookup, or of the first test that fails, of each kind of arrival. -/
theorem arrivalsAreRefused : Obligations.ArrivalsAreRefused := by
  intro s reason t i value order hload
  refine ⟨fun n p o harriving hsource hevent hrefused => ?external,
    fun x o hpresented hsource hevent hrefused => ?internal⟩
  case external =>
    rw [exec_externalArrival_taken hload harriving, takeEvent_refused hsource hevent]
    rcases hrefused with ⟨rfl, hout, rfl, rfl, rfl⟩ | ⟨j, rfl, hreach, hrefused⟩
    · exact arrive_outOfWindow (a := externalArrival o p) (hevent ▸ hout) order
    · exact (arrive_reached (a := externalArrival o p) hreach order).trans (arriveAt_refused hrefused order)
  case internal =>
    have hinternal : o.isInternal = true := by rw [Origin.isInternal, hsource, beq_self_eq_true]
    have hreport : (({ s with presented := none } : State).refuseArrival o reason t i value).1 =
        ({ s with presented := none } : State).report (refusalReport o reason t i value) true := by
      rw [State.refuseArrival, refusal_eq, hinternal]
    rw [exec_internalArrival_taken hload hpresented hsource hevent, ← hreport]
    refine congrArg (fun x : State × ArrivalOutcome => Host.Outcome.next x.1) ?_
    rcases hrefused with ⟨rfl, hout, rfl, rfl, rfl⟩ | ⟨j, rfl, hreach, hrefused⟩
    · exact arrive_outOfWindow (s := { s with presented := none }) (a := internalArrival o x) hout order
    · exact (arrive_reached (s := { s with presented := none }) (a := internalArrival o x) hreach order).trans
        (arriveAt_refused (s := { s with presented := none }) (a := internalArrival o x) hrefused order)

/-- Settles O37: the latch of a masked index, of each kind of arrival. -/
theorem maskedArrivalsAreLatched : Obligations.MaskedArrivalsAreLatched := by
  intro s o i order hreach hmask hload
  refine ⟨fun n p harriving hsource hevent => ?external, fun x hpresented hsource hevent => ?internal⟩
  case external =>
    rw [exec_externalArrival_taken hload harriving, takeEvent_done hsource hevent]
    exact .inr ((arrive_reached (a := externalArrival o p) hreach order).trans (arriveAt_masked hmask ..))
  case internal =>
    rw [exec_internalArrival_taken hload hpresented hsource hevent]
    exact congrArg (fun x : State × ArrivalOutcome => Host.Outcome.next x.1)
      ((arrive_reached (s := { s with presented := none }) (a := internalArrival o x) hreach order).trans
        (arriveAt_masked (s := { s with presented := none }) hmask ..))

end Sys2Proof.Proofs
end

section
/-! Placement (R22, R25, R27 to R31): the pool after an arrival is placed for a list of targets, and what else it
changes. -/

open Sys2Proof Sys2Proof.Machine

namespace Sys2Proof.Proofs

section

variable (i : Index) (e : Entry) (o : Origin) (payload : List Word)

/-! ## One target -/

/-- The new records of targets, in the lowest free slots (R22, R25). -/
def newRecords (ts : List TargetNo) (slots : List SlotNo) : List Record :=
  List.zipWith (fun t slot => newRecord slot t i e o payload) ts slots

/-- The targets of a list that hold no record to coalesce with (R27). -/
def needing (s : State) (ts : List TargetNo) : List TargetNo :=
  ts.filter fun t => (s.coalesceWith t i e.mode).isNone

/-- A record after the arrival, when one of the targets coalesces with it (R28, R29). -/
def joinedFor (s : State) (ts : List TargetNo) (x : Record) : Record :=
  if ∃ t ∈ ts, s.coalesceWith t i e.mode = some x then x.fold 1 payload o else x

theorem coalesceWith_some {s : State} {t : TargetNo} {i : Index} {m : Mode} {r : Record}
    (h : s.coalesceWith t i m = some r) :
    r ∈ s.records ∧ r.target = t ∧ r.index = i ∧ r.mode = m ∧ r.offer = none ∧ m ≠ .queue := by
  unfold State.coalesceWith at h
  obtain ⟨hmode, h⟩ := Option.ite_none_left_eq_some.1 h
  have hkey := List.find?_some h
  simp only [Bool.and_eq_true, beq_iff_eq, Option.isNone_iff_eq_none] at hkey
  obtain ⟨⟨⟨ht, hi⟩, hm⟩, hoffer⟩ := hkey
  exact ⟨List.mem_of_find?_eq_some h, ht, hi, hm, hoffer, hmode⟩

theorem placeFor_some {s : State} {t : TargetNo} {r : Record} (h : s.coalesceWith t i e.mode = some r) :
    s.placeFor i e o payload t = s.foldInto r 1 payload o := by
  simp only [State.placeFor, h]

theorem placeFor_none {s : State} {t : TargetNo} (h : s.coalesceWith t i e.mode = none) {slot : SlotNo}
    (hslot : s.freeSlots.head? = some slot) :
    s.placeFor i e o payload t = s.setRecords (s.records ++ [newRecord slot t i e o payload]) := by
  simp only [State.placeFor, h, hslot]

/-- The arrival is placed for one target after another. -/
def placedFor (s : State) (ts : List TargetNo) : State :=
  ts.foldl (fun x t => x.placeFor i e o payload t) s

/-- What an arrival coalesces with at a target does not depend on what is placed for another (R27). -/
theorem placeFor_coalesceWith {s : State} (hs : SlotsSound s) {t u : TargetNo} (hne : u ≠ t) :
    (s.placeFor i e o payload t).coalesceWith u i e.mode = s.coalesceWith u i e.mode := by
  cases h : s.coalesceWith t i e.mode with
  | some r =>
    obtain ⟨hr, ht, -⟩ := coalesceWith_some h
    rw [placeFor_some i e o payload h]
    unfold State.coalesceWith
    refine if_congr Iff.rfl rfl ?_
    rw [foldInto_records, List.find?_map]
    have hkey : ((fun x : Record => x.target == u && x.index == i && x.mode == e.mode && x.offer.isNone) ∘
        fun x => if x.slot = r.slot then x.fold 1 payload o else x) =
        fun x => x.target == u && x.index == i && x.mode == e.mode && x.offer.isNone := by
      funext x
      obtain ⟨-, htarget, hindex, -, hmode, hoffer⟩ := fold_fixed x 1 payload o
      dsimp only [Function.comp]
      split
      · rw [htarget, hindex, hmode, hoffer]
      · rfl
    rw [hkey]
    cases hfind : s.records.find? fun x => x.target == u && x.index == i && x.mode == e.mode && x.offer.isNone with
    | none => rfl
    | some y =>
      have hy : y.target = u := by
        have := List.find?_some hfind
        simp only [Bool.and_eq_true, beq_iff_eq] at this
        exact this.1.1.1
      have hslot : y.slot ≠ r.slot := fun hslot =>
        hne (hy ▸ (record_unique hs (List.mem_of_find?_eq_some hfind) hr hslot ▸ ht))
      rw [Option.map_some, if_neg hslot]
  | none =>
    cases hfree : s.freeSlots.head? with
    | none => simp only [State.placeFor, h, hfree]
    | some slot =>
      rw [placeFor_none i e o payload h hfree]
      have htu : (t == u) = false := beq_false_of_ne hne.symm
      unfold State.coalesceWith State.setRecords
      dsimp only
      rw [List.find?_append]
      simp [newRecord, htu]

theorem needing_placeFor {s : State} (hs : SlotsSound s) {t : TargetNo} {ts : List TargetNo} (ht : t ∉ ts) :
    needing i e (s.placeFor i e o payload t) ts = needing i e s ts :=
  List.filter_congr fun u hu => by
    rw [placeFor_coalesceWith i e o payload hs (ne_of_mem_of_not_mem hu ht)]

theorem freeSlots_congr {a b : State} (h : a.records.map Record.slot = b.records.map Record.slot) :
    a.freeSlots = b.freeSlots := by
  unfold State.freeSlots
  refine List.filter_congr fun n _ => ?_
  have hall (x : State) : (x.records.all fun r => r.slot != n) = (x.records.map Record.slot).all fun k => k != n := by
    rw [List.all_map]
    rfl
  rw [hall, hall, h]

theorem freeSlots_append {s : State} {slot : SlotNo} {rest : List SlotNo} (h : s.freeSlots = slot :: rest) {x : Record}
    (hx : x.slot = slot) : (s.setRecords (s.records ++ [x])).freeSlots = rest := by
  have hnodup : (slot :: rest).Nodup := h ▸ (List.nodup_finRange _).filter _
  have hfilter : (s.setRecords (s.records ++ [x])).freeSlots = s.freeSlots.filter fun n => n != slot := by
    unfold State.freeSlots State.setRecords
    rw [List.filter_filter]
    refine List.filter_congr fun n _ => ?_
    simp only [List.all_append, List.all_cons, List.all_nil, Bool.and_true, hx]
    rw [Bool.and_comm, bne_comm]
  rw [hfilter, h, List.filter_cons_of_neg (by simp), List.filter_eq_self]
  intro n hn
  rw [bne_iff_ne]
  rintro rfl
  exact (List.nodup_cons.1 hnodup).1 hn

theorem foldInto_slots (s : State) (r : Record) :
    (s.foldInto r 1 payload o).records.map Record.slot = s.records.map Record.slot := by
  rw [foldInto_records, List.map_map]
  refine List.map_congr_left fun x _ => ?_
  dsimp only [Function.comp]
  split
  · exact (fold_fixed x 1 payload o).1
  · rfl

/-! ## Several targets -/

theorem joinedFor_of_none {s : State} {ts : List TargetNo} {x : Record}
    (h : ∀ t ∈ ts, s.coalesceWith t i e.mode ≠ some x) : joinedFor i e o payload s ts x = x :=
  if_neg fun ⟨t, ht, hx⟩ => h t ht hx

theorem joinedFor_of_some {s : State} {t : TargetNo} {ts : List TargetNo} {x : Record} (ht : t ∈ ts)
    (h : s.coalesceWith t i e.mode = some x) : joinedFor i e o payload s ts x = x.fold 1 payload o :=
  if_pos ⟨t, ht, h⟩

/-- A record that the first target of a list does not reach is joined as for the rest of the list. -/
theorem joinedFor_cons {s : State} (hs : SlotsSound s) {t : TargetNo} {ts : List TargetNo} (ht : t ∉ ts) {x : Record}
    (hx : s.coalesceWith t i e.mode ≠ some x) :
    joinedFor i e o payload (s.placeFor i e o payload t) ts x = joinedFor i e o payload s (t :: ts) x := by
  unfold joinedFor
  refine if_congr ?_ rfl rfl
  rw [List.exists_mem_cons_iff, or_iff_right hx]
  refine exists_congr fun u => and_congr_right fun hu => ?_
  rw [placeFor_coalesceWith i e o payload hs (ne_of_mem_of_not_mem hu ht)]

/-- A record of the target just taken is reached by none of the other targets. -/
theorem joinedFor_taken {s : State} {t : TargetNo} {ts : List TargetNo} (ht : t ∉ ts) {x : Record} (hx : x.target = t) :
    joinedFor i e o payload s ts x = x := by
  refine joinedFor_of_none i e o payload fun u hu hsome => ht ?_
  obtain ⟨-, htarget, -⟩ := coalesceWith_some hsome
  rwa [← hx, htarget]

/-- The pool after an arrival is placed for a list of targets, each once, with room for the new records. -/
theorem placedFor_records {s : State} (hs : SlotsSound s) {ts : List TargetNo} (hnodup : ts.Nodup)
    (hroom : (needing i e s ts).length ≤ s.freeCount) :
    (placedFor i e o payload s ts).records =
      s.records.map (joinedFor i e o payload s ts) ++ newRecords i e o payload (needing i e s ts) s.freeSlots := by
  induction ts generalizing s with
  | nil =>
    have hid : s.records.map (joinedFor i e o payload s []) = s.records :=
      List.map_id'' (fun x => joinedFor_of_none i e o payload (fun _ h => absurd h List.not_mem_nil)) _
    rw [hid]
    exact (List.append_nil _).symm
  | cons t ts ih =>
    obtain ⟨hnot, hrest⟩ := List.nodup_cons.1 hnodup
    have hneeding := needing_placeFor i e o payload hs hnot
    have hstep : placedFor i e o payload s (t :: ts) = placedFor i e o payload (s.placeFor i e o payload t) ts := rfl
    rw [hstep]
    cases h : s.coalesceWith t i e.mode with
    | some r =>
      obtain ⟨hr, htarget, -⟩ := coalesceWith_some h
      have hplace := placeFor_some i e o payload h
      have hfree : (s.placeFor i e o payload t).freeSlots = s.freeSlots := by
        rw [hplace]
        exact freeSlots_congr (foldInto_slots o payload s r)
      have hsound : SlotsSound (s.placeFor i e o payload t) := by
        unfold SlotsSound
        rw [hplace, foldInto_slots]
        exact hs
      have hneeds : needing i e s (t :: ts) = needing i e s ts := List.filter_cons_of_neg (by simp [h])
      rw [hneeds] at hroom ⊢
      rw [ih hsound hrest (by rw [hneeding, State.freeCount, hfree]; exact hroom), hneeding, hfree]
      congr 1
      have hrecords : (s.placeFor i e o payload t).records =
          s.records.map fun x => if x.slot = r.slot then x.fold 1 payload o else x := by
        rw [hplace, foldInto_records]
      rw [hrecords, List.map_map]
      refine List.map_congr_left fun x hx => ?_
      dsimp only [Function.comp]
      by_cases hslot : x.slot = r.slot
      · obtain rfl := record_unique hs hx hr hslot
        rw [if_pos rfl, joinedFor_of_some i e o payload List.mem_cons_self h]
        exact joinedFor_taken i e o payload hnot ((fold_fixed x 1 payload o).2.1.trans htarget)
      · rw [if_neg hslot]
        exact joinedFor_cons i e o payload hs hnot
          fun hsome => hslot (congrArg Record.slot (Option.some.inj (hsome.symm.trans h)))
    | none =>
      have hneeds : needing i e s (t :: ts) = t :: needing i e s ts := List.filter_cons_of_pos (by simp [h])
      rw [hneeds] at hroom ⊢
      obtain ⟨slot, rest, hslots⟩ : ∃ slot rest, s.freeSlots = slot :: rest :=
        List.exists_cons_of_length_pos (Nat.lt_of_lt_of_le (Nat.succ_pos _) hroom)
      have hplace := placeFor_none i e o payload h (slot := slot) (by rw [hslots, List.head?_cons])
      have hfree : (s.placeFor i e o payload t).freeSlots = rest := by
        rw [hplace]
        exact freeSlots_append hslots rfl
      have hsound : SlotsSound (s.placeFor i e o payload t) := by
        rw [hplace]
        exact slotsSound_append (by rw [hslots]; exact List.mem_cons_self) hs
      have hroom' : (needing i e s ts).length ≤ rest.length := by
        rw [State.freeCount, hslots] at hroom
        exact Nat.le_of_succ_le_succ hroom
      rw [ih hsound hrest (by rw [hneeding, State.freeCount, hfree]; exact hroom'), hneeding, hfree, hslots]
      have hrecords : (s.placeFor i e o payload t).records = s.records ++ [newRecord slot t i e o payload] := by
        rw [hplace]
        rfl
      have hkept : s.records.map (joinedFor i e o payload (s.placeFor i e o payload t) ts) =
          s.records.map (joinedFor i e o payload s (t :: ts)) :=
        List.map_congr_left fun x _ => joinedFor_cons i e o payload hs hnot (by rw [h]; exact nofun)
      rw [hrecords, List.map_append, hkept, List.map_singleton, joinedFor_taken i e o payload hnot rfl, List.append_assoc]
      rfl

end

end Sys2Proof.Proofs
end

section
/-! An arrival that is placed (R22, R25, R28 to R31, R54, R58): the pool it leaves, and the reports of the placement. -/

open Sys2Proof Sys2Proof.Machine

namespace Sys2Proof.Proofs

/-! ## What placement leaves alone -/

/-- `b` is `s` but for the pool and the Fault Unit. -/
def StoreMoves (s b : State) : Prop :=
  b = { s with records := b.records, faults := b.faults, lostFaults := b.lostFaults, raised := b.raised }

theorem StoreMoves.refl (s : State) : StoreMoves s s := rfl

theorem StoreMoves.trans {a b c : State} (hab : StoreMoves a b) (hbc : StoreMoves b c) : StoreMoves a c := by
  unfold StoreMoves at *
  rw [hab] at hbc
  exact hbc

theorem foldInto_storeMoves (s : State) (r : Record) (n : Nat) (payload : List Word) (o : Origin) :
    StoreMoves s (s.foldInto r n payload o) := by
  rw [foldInto_eq]
  split
  · unfold StoreMoves
    rw [State.report_eq]
    rfl
  · rfl

theorem foldl_moves {α : Type} {R : State → State → Prop} (hrefl : ∀ s, R s s)
    (htrans : ∀ {a b c}, R a b → R b c → R a c)
    {f : State → α → State} (hf : ∀ s a, R s (f s a)) (as : List α) (s : State) : R s (as.foldl f s) := by
  induction as generalizing s with
  | nil => exact hrefl s
  | cons a as ih => exact htrans (hf s a) (ih (f s a))

section

variable (i : Index) (e : Entry) (o : Origin) (payload : List Word)

theorem placeFor_storeMoves (s : State) (t : TargetNo) : StoreMoves s (s.placeFor i e o payload t) := by
  unfold State.placeFor
  split
  · exact foldInto_storeMoves ..
  · split <;> rfl

theorem placedFor_storeMoves (s : State) (ts : List TargetNo) : StoreMoves s (placedFor i e o payload s ts) :=
  foldl_moves StoreMoves.refl StoreMoves.trans (placeFor_storeMoves i e o payload) ts s

/-- The Fault Unit after a fold: nothing is reported while the count stays within 15 (R29). -/
theorem placeFor_faults {s : State} {t : TargetNo}
    (h : ∀ r, s.coalesceWith t i e.mode = some r → r.mode = .count → r.count.getD 0 < 15) :
    (s.placeFor i e o payload t).faults = s.faults ∧ (s.placeFor i e o payload t).lostFaults = s.lostFaults ∧
      (s.placeFor i e o payload t).raised = s.raised := by
  unfold State.placeFor
  split
  · next r hr =>
    rw [foldInto_eq, if_neg]
    · exact ⟨rfl, rfl, rfl⟩
    · rintro ⟨hmode, hcount⟩
      have := h r hr hmode
      omega
  · split <;> exact ⟨rfl, rfl, rfl⟩

theorem placeFor_sound {s : State} (hs : SlotsSound s) (t : TargetNo) : SlotsSound (s.placeFor i e o payload t) := by
  unfold State.placeFor
  split
  · unfold SlotsSound
    rw [foldInto_slots]
    exact hs
  · split
    · next slot hslot => exact slotsSound_append (List.mem_of_head? hslot) hs
    · exact hs

theorem placedFor_faults {s : State} (hs : SlotsSound s) {ts : List TargetNo} (hnodup : ts.Nodup)
    (h : ∀ t ∈ ts, ∀ r, s.coalesceWith t i e.mode = some r → r.mode = .count → r.count.getD 0 < 15) :
    (placedFor i e o payload s ts).faults = s.faults ∧ (placedFor i e o payload s ts).lostFaults = s.lostFaults ∧
      (placedFor i e o payload s ts).raised = s.raised := by
  induction ts generalizing s with
  | nil => exact ⟨rfl, rfl, rfl⟩
  | cons t ts ih =>
    obtain ⟨hnot, hrest⟩ := List.nodup_cons.1 hnodup
    obtain ⟨hfaults, hlost, hraised⟩ := placeFor_faults i e o payload (h t List.mem_cons_self)
    obtain ⟨hfaults', hlost', hraised'⟩ := ih (placeFor_sound i e o payload hs t) hrest fun u hu r hr =>
      h u (List.mem_cons_of_mem _ hu) r
        (by rwa [placeFor_coalesceWith i e o payload hs (ne_of_mem_of_not_mem hu hnot)] at hr)
    exact ⟨hfaults'.trans hfaults, hlost'.trans hlost, hraised'.trans hraised⟩

/-- The report of an internal arrival is marked, and is not raised (R131). -/
theorem placedFor_raised {o : Origin} (h : o.source = 12) (s : State) (ts : List TargetNo) :
    (placedFor i e o payload s ts).raised = s.raised := by
  refine foldl_keeps _ State.raised (fun x t => ?_) ts s
  unfold State.placeFor
  split
  · rw [foldInto_eq]
    split
    · have hmarked : o.isInternal = true := by rw [Origin.isInternal, h, beq_self_eq_true]
      rw [hmarked, report_raised_marked]
      rfl
    · rfl
  · split <;> rfl

/-! ## The new records -/

theorem mem_newRecords {ts : List TargetNo} {slots : List SlotNo} {x : Record}
    (h : x ∈ newRecords i e o payload ts slots) : ∃ t slot, x = newRecord slot t i e o payload := by
  induction ts generalizing slots with
  | nil => cases h
  | cons t ts ih =>
    cases slots with
    | nil => cases h
    | cons slot slots =>
      rcases List.mem_cons.1 h with rfl | h
      · exact ⟨t, slot, rfl⟩
      · exact ih h

theorem newRecords_slots (ts : List TargetNo) (slots : List SlotNo) :
    (newRecords i e o payload ts slots).map Record.slot = slots.take ts.length := by
  induction ts generalizing slots with
  | nil => rfl
  | cons t ts ih =>
    cases slots with
    | nil => rfl
    | cons slot slots => exact congrArg (slot :: ·) (ih slots)

theorem newRecords_targets {ts : List TargetNo} {slots : List SlotNo} (h : ts.length ≤ slots.length) :
    (newRecords i e o payload ts slots).map Record.target = ts := by
  induction ts generalizing slots with
  | nil => rfl
  | cons t ts ih =>
    cases slots with
    | nil => cases h
    | cons slot slots => exact congrArg (t :: ·) (ih (Nat.le_of_succ_le_succ h))

theorem isNewRecord_newRecord (slot : SlotNo) (t : TargetNo) :
    IsNewRecord (newRecord slot t i e o payload) t i e o payload := by
  refine ⟨rfl, rfl, rfl, rfl, rfl, rfl, ?_⟩
  unfold newRecord
  split <;> exact ⟨rfl, rfl⟩

theorem joinedFor_slot (s : State) (ts : List TargetNo) (x : Record) :
    (joinedFor i e o payload s ts x).slot = x.slot := by
  unfold joinedFor
  split
  · exact (fold_fixed x 1 payload o).1
  · rfl

end

/-! ## Placement, as the statements name it -/

section

variable {s : State} {i : Index}

theorem coalesceWith_eq_coalescable (s : State) (i : Index) (g : TargetNo) :
    s.coalesceWith g i s.activeBank.entries[i].mode = (s.coalescable i g).head? := by
  unfold State.coalescable
  by_cases hmode : s.activeBank.entries[i].mode = .queue
  · rw [if_pos hmode, State.coalesceWith, if_pos hmode, List.head?_nil]
  · rw [if_neg hmode, coalesceWith_eq_head hmode]

/-- The pool after the arrival is placed for every chosen target, in the order taken. -/
def placedAll (s : State) (i : Index) (o : Origin) (payload : List Word) (order : List TargetNo) : State :=
  placedFor i s.activeBank.entries[i] o payload s
    (takenOrder order (s.chosenTargets i s.activeBank.entries[i]))

theorem takenOrder_perm (order : List TargetNo) {chosen : List TargetNo} (h : chosen.Nodup) :
    (takenOrder order chosen).Perm chosen :=
  (List.perm_ext_iff_of_nodup (takenOrder_nodup order chosen) h).2 fun _ => mem_takenOrder

theorem chosenTargets_nodup (s : State) (i : Index) (e : Entry) : (s.chosenTargets i e).Nodup :=
  (chosenTargets_pairwise_lt s i e).imp fun h => h.ne

theorem needing_perm (s : State) (i : Index) (order : List TargetNo) :
    (needing i s.activeBank.entries[i] s (takenOrder order (s.chosenTargets i s.activeBank.entries[i]))).Perm
      ((s.chosenTargets i s.activeBank.entries[i]).filter fun g => (s.coalescable i g).isEmpty) := by
  have hempty : needing i s.activeBank.entries[i] s (s.chosenTargets i s.activeBank.entries[i]) =
      (s.chosenTargets i s.activeBank.entries[i]).filter fun g => (s.coalescable i g).isEmpty :=
    List.filter_congr fun g _ => by
      rw [coalesceWith_eq_coalescable]
      cases s.coalescable i g <;> rfl
  rw [← hempty]
  exact (takenOrder_perm order (chosenTargets_nodup ..)).filter _

theorem needing_length (s : State) (i : Index) (order : List TargetNo) :
    (needing i s.activeBank.entries[i] s (takenOrder order (s.chosenTargets i s.activeBank.entries[i]))).length =
      s.neededAt i := by
  rw [← newRecordsNeeded_eq]
  exact ((takenOrder_perm order (chosenTargets_nodup ..)).filter _).length_eq

theorem placedAll_records (hs : SlotsSound s) (hroom : s.neededAt i ≤ s.freeCount) (o : Origin) (payload : List Word)
    (order : List TargetNo) :
    ∃ needs : List TargetNo,
      needs.Perm ((s.chosenTargets i s.activeBank.entries[i]).filter fun g => (s.coalescable i g).isEmpty) ∧
      needs.length = s.neededAt i ∧
      (placedAll s i o payload order).records =
        s.records.map (joinedFor i s.activeBank.entries[i] o payload s
          (takenOrder order (s.chosenTargets i s.activeBank.entries[i]))) ++
        newRecords i s.activeBank.entries[i] o payload needs s.freeSlots :=
  ⟨_, needing_perm s i order, needing_length s i order,
    placedFor_records i s.activeBank.entries[i] o payload hs (takenOrder_nodup ..)
      ((needing_length s i order).trans_le hroom)⟩

/-- The slots after a placement, and the free count (R22). -/
theorem freeCount_of_slots {b : State} (hs : SlotsSound s) {n : Nat} (hroom : n ≤ s.freeCount)
    (h : b.records.map Record.slot = s.records.map Record.slot ++ s.freeSlots.take n) :
    b.freeCount + n = s.freeCount := by
  have hsound : SlotsSound b := by
    unfold SlotsSound
    rw [h, List.nodup_append]
    refine ⟨hs, ((List.nodup_finRange _).filter _).sublist (List.take_sublist ..), ?_⟩
    rintro x hx y hy rfl
    exact State.mem_freeSlots.1 (List.mem_of_mem_take hy) hx
  have hbefore := State.freeCount_add_records hs
  have hafter := State.freeCount_add_records hsound
  have hlength := congrArg List.length h
  rw [List.length_append, List.length_map, List.length_map, List.length_take, ← State.freeCount,
    Nat.min_eq_left hroom] at hlength
  omega

theorem placedIn (hs : SlotsSound s) (hroom : s.neededAt i ≤ s.freeCount) (o : Origin) (payload : List Word)
    (order : List TargetNo) : PlacedIn s (placedAll s i o payload order) i o payload := by
  obtain ⟨needs, hperm, hlength, hrecords⟩ := placedAll_records hs hroom o payload order
  have htaken {g : TargetNo} (hg : g ∈ s.chosenTargets i s.activeBank.entries[i]) :
      g ∈ takenOrder order (s.chosenTargets i s.activeBank.entries[i]) := mem_takenOrder.2 hg
  have hmade : (placedAll s i o payload order).records.drop s.records.length =
      newRecords i s.activeBank.entries[i] o payload needs s.freeSlots := by
    rw [hrecords]
    exact List.drop_left' (List.length_map ..)
  have hslots : (placedAll s i o payload order).records.map Record.slot =
      s.records.map Record.slot ++ s.freeSlots.take (s.neededAt i) := by
    rw [hrecords, List.map_append, newRecords_slots, hlength, List.map_map]
    exact congrArg (· ++ _) (List.map_congr_left fun x _ => joinedFor_slot ..)
  refine ⟨hslots, freeCount_of_slots hs hroom hslots, ?made, ?new, ?kept, ?joined, ?unsaturated, ?internal,
    placedFor_storeMoves ..⟩
  case made =>
    rw [hmade, newRecords_targets _ _ _ _ (hlength.trans_le hroom)]
    exact hperm
  case new =>
    rw [hmade]
    intro x hx
    obtain ⟨t, slot, rfl⟩ := mem_newRecords i s.activeBank.entries[i] o payload hx
    exact ⟨rfl, isNewRecord_newRecord ..⟩
  case kept =>
    intro x hx hnone
    rw [hrecords]
    refine List.mem_append_left _ (List.mem_map.2 ⟨x, hx, joinedFor_of_none _ _ _ _ fun g hg hsome => ?_⟩)
    rw [coalesceWith_eq_coalescable] at hsome
    exact hnone g (mem_takenOrder.1 hg) (List.mem_of_head? hsome)
  case joined =>
    intro g hg x hx
    have hsome : s.coalesceWith g i s.activeBank.entries[i].mode = some x := by
      rw [coalesceWith_eq_coalescable, hx, List.head?_cons]
    rw [hrecords]
    exact List.mem_append_left _
      (List.mem_map.2 ⟨x, (coalesceWith_some hsome).1, joinedFor_of_some _ _ _ _ (htaken hg) hsome⟩)
  case unsaturated =>
    intro hcounts
    refine placedFor_faults _ _ _ _ hs (takenOrder_nodup ..) fun g hg x hx => hcounts g (mem_takenOrder.1 hg) x ?_
    rw [coalesceWith_eq_coalescable] at hx
    exact List.mem_of_head? hx
  case internal => exact fun h => placedFor_raised _ _ _ h ..

/-! ## The reports of a placement (R54, R58) -/

theorem reachedLevel_eq (s : State) (i : Index) (g : TargetNo) :
    s.reachedLevel i s.activeBank.entries[i] g =
      ((s.coalescable i g).head?.map Record.level).getD s.activeBank.entries[i].level := by
  unfold State.reachedLevel
  rw [coalesceWith_eq_coalescable]
  cases (s.coalescable i g).head? <;> rfl

/-- Reports of a placement, one target after another. -/
def toldOf (s : State) (level : TargetNo → Level) (ts : List TargetNo) : State :=
  ts.foldl (fun x g => x.notify g (level g)) s

/-- The rotation pointers after a placement at an index (R54). -/
def pointersAfter (s : State) (i : Index) (e : Entry) (chosen : List TargetNo) : Vector (Option TargetNo) 512 :=
  if e.distribution = .rotate then chosen.head?.elim s.pointers fun g => s.pointers.set i (some g) else s.pointers

theorem reported_eq (s b : State) (i : Index) (order : List TargetNo) :
    s.reported b i order =
      { toldOf b (s.reachedLevel i s.activeBank.entries[i])
          (takenOrder order (s.chosenTargets i s.activeBank.entries[i])) with
        pointers := pointersAfter s i s.activeBank.entries[i] (s.chosenTargets i s.activeBank.entries[i]) } := by
  refine congrArg₂ (fun (told : State) p => ({ told with pointers := p } : State))
    (congrArg (fun f => List.foldl f b _) (funext fun x => funext fun g => congrArg (x.notify g) ?_)) ?_
  · rw [reachedLevel_eq]
    dsimp only
    cases s.coalescable i g <;> rfl
  · unfold pointersAfter
    cases s.activeBank.entries[i].distribution with
    | direct | broadcast => rfl
    | rotate => cases (s.chosenTargets i s.activeBank.entries[i]).head? <;> rfl

theorem toldOf_pointers (b : State) (level : TargetNo → Level) (ts : List TargetNo) :
    (toldOf b level ts).pointers = b.pointers :=
  foldl_keeps _ State.pointers (fun x g => congrArg (fun y => y.2.2) (State.notify_apart x g (level g))) ts b

theorem placedAll_pointers (s : State) (i : Index) (o : Origin) (payload : List Word) (order : List TargetNo) :
    (placedAll s i o payload order).pointers = s.pointers := by
  have hmoves : StoreMoves s (placedAll s i o payload order) := placedFor_storeMoves ..
  rw [hmoves]

/-- An arrival is placed and its placement reported, in the words of Safety.lean. -/
theorem place_eq (s : State) (i : Index) (o : Origin) (payload : List Word) (order : List TargetNo) :
    s.place i s.activeBank.entries[i] o payload (s.chosenTargets i s.activeBank.entries[i]) order =
      s.reported (placedAll s i o payload order) i order := by
  obtain ⟨told, htold⟩ : ∃ told, told = toldOf (placedAll s i o payload order)
      (s.reachedLevel i s.activeBank.entries[i])
      (takenOrder order (s.chosenTargets i s.activeBank.entries[i])) := ⟨_, rfl⟩
  have hpointers : told.pointers = s.pointers := by rw [htold, toldOf_pointers, placedAll_pointers]
  rw [reported_eq, ← htold, pointersAfter, ← hpointers]
  unfold State.place
  cases hd : s.activeBank.entries[i].distribution with
  | direct | broadcast => exact htold.symm
  | rotate =>
    cases (s.chosenTargets i s.activeBank.entries[i]).head? with
    | none => exact htold.symm
    | some g =>
      rw [if_pos rfl, Option.elim_some]
      exact congrArg (fun x : State => ({ x with pointers := x.pointers.set i (some g) } : State)) htold.symm

/-! ## What the reports leave alone -/

/-- `b` is `s` but for the pool, the targets and the links, and the links of the sources are as they were. -/
def DeliveryMoves (s b : State) : Prop :=
  b = { s with records := b.records, targets := b.targets, links := b.links } ∧
    ∀ k : LinkNo, k.val < 12 → b.links[k] = s.links[k]

theorem DeliveryMoves.refl (s : State) : DeliveryMoves s s := ⟨rfl, fun _ _ => rfl⟩

theorem DeliveryMoves.trans {a b c : State} (hab : DeliveryMoves a b) (hbc : DeliveryMoves b c) : DeliveryMoves a c := by
  obtain ⟨hb, hlinks⟩ := hab
  obtain ⟨hc, hlinks'⟩ := hbc
  refine ⟨?_, fun k hk => (hlinks' k hk).trans (hlinks k hk)⟩
  rw [hb] at hc
  exact hc

theorem post_deliveryMoves (s : State) (t : TargetNo) (f : OutFrame) : DeliveryMoves s (s.post (targetLink t) f) := by
  refine ⟨?_, fun k hk => post_link_ne s f fun heq => ?_⟩
  · unfold State.post State.handOver
    split <;> rfl
  · rw [heq] at hk
    have := twelve_le_targetLink t
    omega

theorem reexamine_deliveryMoves (s : State) (t : TargetNo) : DeliveryMoves s (s.reexamine t) := by
  rcases State.reexamine_cases s t with heq | ⟨r, -, -, heq⟩
  · rw [heq]
    exact .refl s
  · rw [heq]
    exact .trans ⟨rfl, fun _ _ => rfl⟩ (post_deliveryMoves _ t _)

theorem sendWake_deliveryMoves (s : State) (t : TargetNo) (level : Level) : DeliveryMoves s (s.sendWake t level) :=
  .trans ⟨rfl, fun _ _ => rfl⟩ (post_deliveryMoves _ t _)

theorem notify_deliveryMoves (s : State) (t : TargetNo) (level : Level) : DeliveryMoves s (s.notify t level) := by
  rcases State.notify_cases s t level with heq | heq | ⟨-, -, heq⟩
  · rw [heq]
    exact .refl s
  · rw [heq]
    exact reexamine_deliveryMoves s t
  · rw [heq]
    exact sendWake_deliveryMoves s t level

theorem toldOf_deliveryMoves (s : State) (level : TargetNo → Level) (ts : List TargetNo) :
    DeliveryMoves s (toldOf s level ts) :=
  foldl_moves DeliveryMoves.refl DeliveryMoves.trans (fun x g => notify_deliveryMoves x g (level g)) ts s

/-- What a placement that is reported leaves alone. -/
theorem reported_rest {b : State} (hb : StoreMoves s b) (order : List TargetNo) :
    s.reported b i order =
        { s with
          records := (s.reported b i order).records, targets := (s.reported b i order).targets,
          links := (s.reported b i order).links, pointers := (s.reported b i order).pointers, faults := b.faults,
          lostFaults := b.lostFaults, raised := b.raised } ∧
      ∀ k : LinkNo, k.val < 12 → (s.reported b i order).links[k] = s.links[k] := by
  rw [reported_eq]
  obtain ⟨told, htold⟩ : ∃ told, told = toldOf b (s.reachedLevel i s.activeBank.entries[i])
      (takenOrder order (s.chosenTargets i s.activeBank.entries[i])) := ⟨_, rfl⟩
  have hmoves : DeliveryMoves b told := htold ▸ toldOf_deliveryMoves ..
  obtain ⟨hrest, hlinks⟩ := hmoves
  rw [← htold]
  refine ⟨?_, fun k hk => (hlinks k hk).trans ?_⟩
  · unfold StoreMoves at hb
    rw [hb] at hrest
    rw [hrest]
  · rw [show b.links = s.links by rw [hb]]

end

end Sys2Proof.Proofs
end

section
/-! The arrivals that are placed, of each kind: as new records or joined to others (R25, R28, R29, R31, R58), and the
releases of an UNMASK (R61, R70 to R72). -/

open Sys2Proof Sys2Proof.Machine

namespace Sys2Proof.Proofs

/-! ## The end of an external arrival (R43, R151) -/

theorem eventEnded_rest (m : State) (n : SourceLink) (p : PassedEvent) :
    m.eventEnded n p = { m with links := (m.eventEnded n p).links, arriving := m.arriving.set n none } := by
  unfold State.eventEnded
  dsimp only
  split <;> rfl

theorem eventEnded_link (m : State) (n : SourceLink) (p : PassedEvent) :
    (m.eventEnded n p).links[sourceLink n] =
      if m.isUp (sourceLink n) = true ∧ m.links[sourceLink n].session = p.session then
        { m.links[sourceLink n] with
          ingress := m.links[sourceLink n].ingress.eraseP InFrame.isEvent }.finished
      else m.links[sourceLink n] := by
  unfold State.eventEnded
  dsimp only
  split
  · exact State.withLink_self ..
  · rfl

theorem eventEnded_link_ne (m : State) {n : SourceLink} (p : PassedEvent) {k : LinkNo} (hk : k ≠ sourceLink n) :
    (m.eventEnded n p).links[k] = m.links[k] := by
  unfold State.eventEnded
  dsimp only
  split
  · exact State.withLink_ne _ _ hk
  · rfl

/-! ## Arrivals of each kind that are placed -/

section

variable {s : State} {o : Origin} {i : Index} {order : List TargetNo}

theorem exec_externalArrival_placed (hload : s.loading = false) (hadmitted : Admitted s i) {n : SourceLink} {p : PassedEvent}
    (hreach : Reaches s o i) (harriving : s.arriving[n] = some p) (hsource : o.source.val = n.val)
    (hevent : o.event = p.event) (hpool : s.neededAt i = 0 ∨ s.neededAt i + 8 ≤ s.freeCount) :
    exec (.externalArrival n order) s =
      .next ((s.reported (placedAll s i o p.payload order) i order).eventEnded n p) := by
  rw [exec_externalArrival_taken hload harriving, ← place_eq, takeEvent_done hsource hevent]
  exact .inl ((arrive_reached (a := externalArrival o p) hreach order).trans
    (arriveAt_placed (a := externalArrival o p) hadmitted hpool order))

theorem exec_internalArrival_placed (hload : s.loading = false) (hadmitted : Admitted s i) {x : Raised}
    (hreach : Reaches s o i) (hpresented : s.presented = some x) (hsource : o.source = 12)
    (hevent : o.event = BitVec.ofNat 8 x.event.number) (hpool : s.neededAt i ≤ s.freeCount) :
    exec (.internalArrival order) s =
      .next (({ s with presented := none } : State).reported
        (placedAll { s with presented := none } i o [x.payload] order) i order) := by
  rw [exec_internalArrival_taken hload hpresented hsource hevent, ← place_eq]
  exact congrArg (fun x : State × ArrivalOutcome => Host.Outcome.next x.1)
    ((arrive_reached (s := { s with presented := none }) (a := internalArrival o x) hreach order).trans
      (arriveAt_placed (s := { s with presented := none }) (a := internalArrival o x) hadmitted (.inr hpool) order))

theorem exec_release_placed (hload : s.loading = false) (hadmitted : Admitted s i) {u : UnmaskRun}
    (hcurrent : s.current = some (.unmask u)) (hlatch : u.presented = some { index := i, origin := o })
    (hpool : s.neededAt i = 0 ∨ s.neededAt i + 8 ≤ s.freeCount) :
    exec (.release order 0) s =
      .next { s.reported (placedAll s i o [] order) i order with
        current := some (.unmask { u with presented := none, placed := u.placed + 1 }) } := by
  rw [exec_release hload hcurrent hlatch (arriveAt_placed (a := releaseArrival o) hadmitted hpool order), ← place_eq]
  rfl

end

/-- Settles O38: the pool of the placement, its reports, and what else an arrival of each kind changes. -/
theorem arrivalsArePlaced : Obligations.ArrivalsArePlaced := by
  intro s o i order hs hload _ hadmitted
  have hroom : s.neededAt i = 0 ∨ s.neededAt i + 8 ≤ s.freeCount → s.neededAt i ≤ s.freeCount := by omega
  refine ⟨fun n p hreach harriving hsource hevent hpool => ?external,
    fun x hreach hpresented hsource hevent hpool => ?internal, fun u hcurrent hlatch hpool => ?release⟩
  case external =>
    obtain ⟨b, hb⟩ : ∃ b, b = placedAll s i o p.payload order := ⟨_, rfl⟩
    have hplaced : PlacedIn s b i o p.payload := hb ▸ placedIn hs (hroom hpool) o p.payload order
    have hmoves : StoreMoves s b := hb ▸ placedFor_storeMoves ..
    have hexec := exec_externalArrival_placed (order := order) hload hadmitted hreach harriving hsource hevent hpool
    rw [← hb] at hexec
    obtain ⟨hrest, hlinks⟩ := reported_rest (i := i) hmoves order
    obtain ⟨m, hm⟩ : ∃ m, m = s.reported b i order := ⟨_, rfl⟩
    rw [← hm] at hrest hlinks hexec
    have hlink := hlinks (sourceLink n) n.isLt
    refine ⟨b, m.eventEnded n p, hplaced, by rw [hm], hexec, ?_, fun k hk hne => ?_, ?_⟩
    · rw [eventEnded_link, State.isUp, hlink]
      rfl
    · rw [eventEnded_link_ne m p hne, hlinks k hk]
    · have hend := eventEnded_rest m n p
      generalize m.eventEnded n p = t at hend ⊢
      rw [hrest] at hend
      rw [hend]
  case internal =>
    intro taken
    obtain ⟨b, hb⟩ : ∃ b, b = placedAll taken i o [x.payload] order := ⟨_, rfl⟩
    have hplaced : PlacedIn taken b i o [x.payload] := hb ▸ placedIn (s := taken) hs hpool o [x.payload] order
    have hmoves : StoreMoves taken b := hb ▸ placedFor_storeMoves ..
    have hraised : b.raised = s.raised := hb ▸ placedFor_raised _ _ _ hsource ..
    have hexec := exec_internalArrival_placed (order := order) hload hadmitted hreach hpresented hsource hevent hpool
    rw [show ({ s with presented := none } : State) = taken from rfl, ← hb] at hexec
    obtain ⟨hrest, hlinks⟩ := reported_rest (i := i) hmoves order
    refine ⟨b, taken.reported b i order, hplaced, rfl, hexec, hlinks, ?_⟩
    rw [hraised] at hrest
    exact hrest
  case release =>
    obtain ⟨b, hb⟩ : ∃ b, b = placedAll s i o [] order := ⟨_, rfl⟩
    have hplaced : PlacedIn s b i o [] := hb ▸ placedIn hs (hroom hpool) o [] order
    have hmoves : StoreMoves s b := hb ▸ placedFor_storeMoves ..
    have hexec := exec_release_placed (order := order) hload hadmitted hcurrent hlatch hpool
    rw [← hb] at hexec
    obtain ⟨hrest, hlinks⟩ := reported_rest (i := i) hmoves order
    exact ⟨b, s.reported b i order, hplaced, rfl, hexec, hlinks, hrest⟩

/-! ## One chosen target -/

section

variable {s : State} {i : Index} {g : TargetNo}

theorem takenOrder_singleton (order : List TargetNo) (g : TargetNo) : takenOrder order [g] = [g] :=
  List.perm_singleton.1 (takenOrder_perm order (List.nodup_singleton g))

/-- The placement for one chosen target, and its report. -/
theorem reported_single (hchosen : s.chosenTargets i s.activeBank.entries[i] = [g]) (o : Origin) (payload : List Word)
    (order : List TargetNo) :
    s.reported (placedAll s i o payload order) i order =
      { (s.placeFor i s.activeBank.entries[i] o payload g).notify g (s.reachedLevel i s.activeBank.entries[i] g) with
        pointers := if s.activeBank.entries[i].distribution = .rotate then s.pointers.set i (some g) else s.pointers } := by
  rw [reported_eq, placedAll, hchosen, takenOrder_singleton]
  unfold toldOf placedFor pointersAfter
  rw [List.foldl_cons, List.foldl_nil, List.foldl_cons, List.foldl_nil, List.head?_cons, Option.elim_some]

theorem coalesceWith_waiting {r : Record} (hmode : s.activeBank.entries[i].mode ≠ .queue)
    (hwaiting : s.waitingRecords g i s.activeBank.entries[i].mode = [r]) :
    s.coalesceWith g i s.activeBank.entries[i].mode = some r := by
  rw [coalesceWith_eq_head hmode, hwaiting, List.head?_cons]

theorem neededAt_coalescing {r : Record} (hmode : s.activeBank.entries[i].mode ≠ .queue)
    (hchosen : s.chosenTargets i s.activeBank.entries[i] = [g])
    (hwaiting : s.waitingRecords g i s.activeBank.entries[i].mode = [r]) : s.neededAt i = 0 := by
  rw [← newRecordsNeeded_eq, hchosen, State.newRecordsNeeded,
    List.filter_cons_of_neg (by rw [coalesceWith_waiting hmode hwaiting]; exact Bool.false_ne_true)]
  rfl

/-- A record joined by one arrival more, with the report of a count beyond 15 (R28, R29). -/
theorem foldInto_joined (hs : SlotsSound s) {m : Mode} {r : Record} (hr : s.coalesceWith g i m = some r) (o : Origin)
    (payload : List Word) :
    s.foldInto r 1 payload o =
      if m = .count ∧ 15 ≤ r.count.getD 0 then
        ({ s with
          records := s.records.map fun y =>
            if y.slot = r.slot then
              if m = .count then { r with count := some (min 15 (r.count.getD 0 + 1)), origin := o }
              else { r with payload := payload, origin := o }
            else y } : State).report
          { kind := .countSaturated
            link := if h : o.source.val < 12 then some ⟨o.source.val, by omega⟩ else none
            target := some g
            index := some i
            event := some o.event
            detail := BitVec.ofNat 16 (r.count.getD 0 + 1 - 15) } (o.source == 12)
      else
        { s with
          records := s.records.map fun y =>
            if y.slot = r.slot then
              if m = .count then { r with count := some (min 15 (r.count.getD 0 + 1)), origin := o }
              else { r with payload := payload, origin := o }
            else y } := by
  obtain ⟨hmem, rfl, rfl, rfl, -⟩ := coalesceWith_some hr
  have hchange : (s.changeRecord r.slot fun x => x.fold 1 payload o) =
      { s with
        records := s.records.map fun y =>
          if y.slot = r.slot then
            if r.mode = .count then { r with count := some (min 15 (r.count.getD 0 + 1)), origin := o }
            else { r with payload := payload, origin := o }
          else y } := by
    refine congrArg s.setRecords (List.map_congr_left fun y hy => ?_)
    by_cases hslot : y.slot = r.slot
    · rw [if_pos hslot, if_pos hslot, record_unique hs hy hmem hslot]
      rfl
    · rw [if_neg hslot, if_neg hslot]
  rw [foldInto_eq, hchange]
  exact if_congr (and_congr_right fun _ => Nat.lt_succ_iff) rfl rfl

/-- The placement for one target that holds a waiting record of the key. -/
theorem reported_coalescing (hmode : s.activeBank.entries[i].mode ≠ .queue) {r : Record}
    (hchosen : s.chosenTargets i s.activeBank.entries[i] = [g])
    (hwaiting : s.waitingRecords g i s.activeBank.entries[i].mode = [r]) (o : Origin) (payload : List Word)
    (order : List TargetNo) :
    s.reported (placedAll s i o payload order) i order =
      { (s.foldInto r 1 payload o).notify g r.level with
        pointers := if s.activeBank.entries[i].distribution = .rotate then s.pointers.set i (some g) else s.pointers } := by
  have hsome := coalesceWith_waiting hmode hwaiting
  rw [reported_single hchosen, placeFor_some _ _ _ _ hsome]
  simp only [State.reachedLevel, hsome]

end

/-- Settles O39: the fold into the waiting record and its report, of each kind of arrival. -/
theorem repeatedArrivalsCoalesce : Obligations.RepeatedArrivalsCoalesce := by
  intro s o i g r order hs hadmitted hload e hmode hchosen hwaiting after
  have hneeds : s.neededAt i = 0 := neededAt_coalescing hmode hchosen hwaiting
  have hsome := coalesceWith_waiting hmode hwaiting
  have hafter (payload : List Word) : s.reported (placedAll s i o payload order) i order = after s payload := by
    rw [reported_coalescing hmode hchosen hwaiting, foldInto_joined hs hsome]
  refine ⟨fun n p hreach harriving hsource hevent => ?external, fun x hreach hpresented hsource hevent => ?internal,
    fun u hcurrent hlatch => ?release⟩
  case external =>
    rw [exec_externalArrival_placed hload hadmitted hreach harriving hsource hevent (.inl hneeds), hafter]
  case internal =>
    rw [exec_internalArrival_placed hload hadmitted hreach hpresented hsource hevent (hneeds ▸ Nat.zero_le _),
      reported_coalescing (s := { s with presented := none }) hmode hchosen hwaiting,
      foldInto_joined (s := { s with presented := none }) hs hsome]
    rfl
  case release =>
    rw [exec_release_placed hload hadmitted hcurrent hlatch (.inl hneeds), hafter]

/-! ## Releases (R61, R70) -/

theorem exec_release_pace {s : State} (hload : s.loading = false) {u : UnmaskRun} (hcurrent : s.current = some (.unmask u))
    {latch : Latch} (hlatch : u.presented = some latch) (order : List TargetNo) (pace : Nat) {b : State}
    (hb : exec (.release order 0) s = .next b) : exec (.release order pace) s = exec (.unmaskRange pace) b := by
  obtain ⟨taken, outcome, harrive⟩ : ∃ taken outcome,
      s.arriveAt (releaseArrival latch.origin) order latch.index s.activeBank.entries[latch.index] = (taken, outcome) :=
    ⟨_, _, rfl⟩
  have hloading : taken.loading = false := by
    have hstill := State.arriveAt_still s (releaseArrival latch.origin) order latch.index
      s.activeBank.entries[latch.index]
    rw [harrive] at hstill
    exact (congrArg Still.loading hstill).trans hload
  rw [exec_release hload hcurrent hlatch harrive] at hb ⊢
  cases hb
  rw [State.unmaskOn_zero, exec_unmaskRange_current (s := { taken with current := some (.unmask (u.count outcome)) })
    hloading rfl]
  exact congrArg Host.Outcome.next (unmaskOn_current taken _ _ pace).symm

/-- The lowest slot that no record holds is the first of the free slots (R22). -/
theorem freeSlots_head {s : State} {slot : SlotNo} (hslot : slot ∉ s.records.map Record.slot)
    (hlowest : ∀ j < slot, j ∈ s.records.map Record.slot) : s.freeSlots.head? = some slot := by
  have hmem : slot ∈ s.freeSlots := State.mem_freeSlots.2 hslot
  have hsorted : s.freeSlots.Pairwise (· < ·) := (List.pairwise_lt_finRange _).filter _
  cases hfree : s.freeSlots with
  | nil => exact absurd (hfree ▸ hmem) List.not_mem_nil
  | cons first rest =>
    have hle : first.val ≤ slot.val :=
      head_le_of_pairwise_lt (f := Fin.val) hsorted (by rw [hfree, List.head?_cons]) hmem
    have hnot : ¬ first < slot := fun hlt =>
      State.mem_freeSlots.1 (hfree ▸ List.mem_cons_self : first ∈ s.freeSlots) (hlowest first hlt)
    rw [Fin.lt_def] at hnot
    exact congrArg some (Fin.ext (by omega))

/-- Settles O41: the refused release, the one placed as a new record, and the pace after either. -/
theorem releasesArePlacedOrLost : Obligations.ReleasesArePlacedOrLost := by
  intro s u latch order hload hcurrent hlatch i e
  refine ⟨fun reason t value hrefused => ?refused, fun g slot hs hadmitted hchosen hnew hfree hslot hlowest => ?placed,
    fun pace b hb => ⟨exec_release_pace hload hcurrent hlatch order pace hb, fun t v htload htcurrent hnone hlast => ?_⟩⟩
  case refused =>
    rw [exec_release hload hcurrent hlatch
      (arriveAt_refused (a := releaseArrival latch.origin) hrefused order), refusal_eq]
    rfl
  case placed =>
    have hnone : s.coalesceWith g i e.mode = none := by
      rw [coalesceWith_none_iff]
      exact hnew.symm.imp_left fun h => by rw [h]; rfl
    have hneeds : s.neededAt i = 1 := by
      rw [← newRecordsNeeded_eq, hchosen, State.newRecordsNeeded, List.filter_cons_of_pos (by rw [hnone]; rfl)]
      rfl
    have hhead : s.freeSlots.head? = some slot := freeSlots_head hslot hlowest
    have hlevel : s.reachedLevel i e g = e.level := by simp only [State.reachedLevel, hnone]
    refine ⟨newRecord slot g i e latch.origin [], rfl, rfl, isNewRecord_newRecord .., ?_⟩
    rw [exec_release_placed hload hadmitted hcurrent hlatch (.inr (by omega)), reported_single hchosen,
      placeFor_none _ _ _ _ hnone hhead, hlevel]
    rfl
  · rw [exec_unmaskRange_current htload htcurrent, State.unmaskOn_done]
    simp [UnmaskRun.done, hnone, hlast]

end Sys2Proof.Proofs
end

section
/-! The results of the read requests (11.5): what is sent of results of which some bits are not named, and the eight
reads, which change nothing (R10, R11, R38, R74, R136, R172, R173, R176). -/

open Sys2Proof Sys2Proof.Machine

namespace Sys2Proof.Proofs

/-! ## Results as sent (notes/assumptions/1.md) -/

/-- The byte is sent for the result byte: its named bits as they are, the others with any value. -/
def ShownAs (r : ResultByte) (b : Byte) : Prop :=
  ∃ free : Byte, b = r.named ||| (r.unnamed &&& free)

/-- The bytes are sent for the result bytes, one for one. -/
abbrev Shown : List ResultByte → List Byte → Prop :=
  List.Forall₂ ShownAs

theorem sent_shown (draw position : Nat) (r : ResultByte) : ShownAs r (r.sent draw position) := by
  unfold ResultByte.sent
  split
  · next h => exact ⟨0, by simp⟩
  · exact ⟨_, rfl⟩

theorem render_shown (draw : Nat) (rs : List ResultByte) : Shown rs (render draw rs) := by
  refine List.forall₂_of_length_eq_of_get (by simp [render]) fun n h h' => ?_
  have hsent := sent_shown draw n rs[n]
  simpa [render] using hsent

theorem shownAs_plain {b c : Byte} (h : ShownAs { named := b, unnamed := 0 } c) : c = b := by
  obtain ⟨free, rfl⟩ := h
  simp

theorem shown_plain {bs out : List Byte} (h : Shown (plain bs) out) : out = bs := by
  induction bs generalizing out with
  | nil => exact List.forall₂_nil_left_iff.1 h
  | cons b bs ih =>
    obtain ⟨c, rest, hc, hrest, rfl⟩ := List.forall₂_cons_left_iff.1 h
    rw [shownAs_plain hc, ih hrest]

theorem shown_append {xs ys : List ResultByte} {out : List Byte} (h : Shown (xs ++ ys) out) :
    ∃ a b, out = a ++ b ∧ Shown xs a ∧ Shown ys b := by
  induction xs generalizing out with
  | nil => exact ⟨[], out, rfl, .nil, h⟩
  | cons x xs ih =>
    obtain ⟨c, rest, hc, hrest, rfl⟩ := List.forall₂_cons_left_iff.1 h
    obtain ⟨a, b, rfl, ha, hb⟩ := ih hrest
    exact ⟨c :: a, b, rfl, .cons hc ha, hb⟩

theorem shown_cons {x : ResultByte} {xs : List ResultByte} {out : List Byte} (h : Shown (x :: xs) out) :
    ∃ b rest, out = b :: rest ∧ ShownAs x b ∧ Shown xs rest := by
  obtain ⟨b, rest, hb, hrest, hout⟩ := List.forall₂_cons_left_iff.1 h
  exact ⟨b, rest, hout, hb, hrest⟩

/-! ## The bodies of the reads -/

theorem selected_ok {s : State} {selector : Byte}
    (h : selector = 0x00 ∨ selector = 0x01 ∧ s.copyState = .idle) :
    s.stagingBusy (Selector.ofCode selector) = false ∧
      s.selected (Selector.ofCode selector) = some (if selector = 0x01 then s.active.other else s.active) := by
  rcases h with rfl | ⟨rfl, hidle⟩
  · exact ⟨stagingBusy_false (by simp), rfl⟩
  · exact ⟨stagingBusy_false (by rw [hidle]; simp), rfl⟩

theorem readEntry_ok {s : State} {selector hi lo count : Byte}
    (hselector : selector = 0x00 ∨ selector = 0x01 ∧ s.copyState = .idle) (hlow : 1 ≤ count.toNat)
    (hhigh : count.toNat ≤ 4) (hrange : (hi ++ lo : Half).toNat + count.toNat ≤ 512) :
    State.readEntry [selector, hi, lo, count] s =
      .ok (plain ((if selector = 0x01 then s.active.other else s.active).code ::
        ((s.bank (if selector = 0x01 then s.active.other else s.active)).entriesFrom (hi ++ lo : Half).toNat
          count.toNat).flatMap fun e => bytesOf 4 e.code)) := by
  obtain ⟨hbusy, hselected⟩ := selected_ok hselector
  unfold State.readEntry
  dsimp only
  rw [hbusy, if_neg Bool.false_ne_true, if_neg (by omega), if_neg (by omega), hselected]
  rfl

theorem readWindow_ok {s : State} {selector source : Byte}
    (hselector : selector = 0x00 ∨ selector = 0x01 ∧ s.copyState = .idle) {n : SourceNo} (hn : n.val = source.toNat) :
    State.readWindow [selector, source] s =
      .ok (plain ((if selector = 0x01 then s.active.other else s.active).code :: source ::
        bytesOf 2 (s.bank (if selector = 0x01 then s.active.other else s.active)).windows[n].code)) := by
  obtain ⟨hbusy, hselected⟩ := selected_ok hselector
  unfold State.readWindow
  dsimp only
  rw [hbusy, if_neg Bool.false_ne_true, inRange_val hn, hselected]
  rfl

theorem readLink_ok {s : State} {b : Byte} {l : LinkNo} (hl : l.val = b.toNat) :
    State.readLink [b] s = .ok (s.linkResult l) := by
  unfold State.readLink
  dsimp only
  rw [inRange_val hl]

theorem readTarget_ok {s : State} {b part : Byte} {t : TargetNo} (ht : t.val = b.toNat) (hpart : part.toNat < 3) :
    State.readTarget [b, part] s =
      .ok (if part = 0x00 then s.targetResult t else if part = 0x01 then s.stackResult t 0 else s.stackResult t 4) := by
  have hcases : part = 0x00 ∨ part = 0x01 ∨ part = 0x02 := by
    rcases (by omega : part.toNat = 0 ∨ part.toNat = 1 ∨ part.toNat = 2) with h | h | h
    · exact .inl (BitVec.eq_of_toNat_eq h)
    · exact .inr (.inl (BitVec.eq_of_toNat_eq h))
    · exact .inr (.inr (BitVec.eq_of_toNat_eq h))
  unfold State.readTarget
  dsimp only
  rw [inRange_val ht]
  rcases hcases with rfl | rfl | rfl <;> rfl

theorem readPending_ok {s : State} {b level hi lo count : Byte} {t : TargetNo} (ht : t.val = b.toNat) {l : Level}
    (hl : l.val = level.toNat) (hstart : (hi ++ lo : Half).toNat < 384) (hlow : 1 ≤ count.toNat) (hhigh : count.toNat ≤ 4) :
    State.readPending [b, level, hi, lo, count] s =
      .ok (s.pendingResult t l (hi ++ lo : Half).toNat count.toNat) := by
  unfold State.readPending
  dsimp only
  rw [inRange_val ht, inRange_val hl]
  exact if_neg (by omega)

/-- The bits of READ_MASK: flag and latch of each index of the range (R74). -/
def maskBits (s : State) (first count : Nat) : List Bool :=
  (((List.finRange 512).drop first).take count).flatMap fun i => [s.maskMap[i], s.latches[i].isSome]

theorem readMask_ok {s : State} {hi lo count : Byte} (hlow : 1 ≤ count.toNat) (hhigh : count.toNat ≤ 64)
    (hrange : (hi ++ lo : Half).toNat + count.toNat ≤ 512) :
    State.readMask [hi, lo, count] s =
      .ok (plain ([hi, lo, count] ++ packBits (maskBits s (hi ++ lo : Half).toNat count.toNat))) := by
  unfold State.readMask
  dsimp only
  rw [if_neg (by omega), if_neg (by omega)]
  rfl

theorem readFaults_ok {s : State} {start count : Byte} (hstart : start.toNat < 8) (hlow : 1 ≤ count.toNat)
    (hhigh : count.toNat ≤ 4) :
    State.readFaults [start, count] s =
      .ok (plain [BitVec.ofNat 8 s.faults.length, BitVec.ofNat 8 s.lostFaults] ++
        ((s.faults.zipIdx.drop start.toNat).take count.toNat).flatMap fun x => x.1.result x.2) :=
  if_neg (by omega)

theorem inspected_read {s : State} {op : Operation} {r : Request} {operands : List Byte}
    {body : List Byte → State → Reply} (h : Granted s op r operands)
    (hbody : ∃ results, body operands (dequeued s) = .ok results) :
    ∃ results draws,
      (Host.Outcome.next (inspected body r (dequeued s)) : Host.Outcome State Fault Refusal) =
        .next (({ s with draws := draws } : State).responded r .ok results) := by
  obtain ⟨results, hbody⟩ := hbody
  obtain ⟨draws, hdraws⟩ := inspected_answers h hbody
  exact ⟨_, draws, congrArg Host.Outcome.next hdraws⟩

/-- Settles O53: each read by the results of its body. -/
theorem readsChangeNothing : Obligations.ReadsChangeNothing := by
  intro s op r operands hg hread
  rw [exec_granted 0 hg]
  split at hread
  · exact inspected_read hg ⟨_, rfl⟩
  · next l => exact inspected_read hg ⟨_, readLink_ok (l := ⟨l.toNat, hread⟩) rfl⟩
  · next t part => exact inspected_read hg ⟨_, readTarget_ok (t := ⟨t.toNat, hread.1⟩) rfl hread.2⟩
  · next selector hi lo count =>
    obtain ⟨hselector, hlow, hhigh, hrange⟩ := hread
    exact inspected_read hg ⟨_, readEntry_ok (s := dequeued s) hselector hlow hhigh hrange⟩
  · next selector n =>
    obtain ⟨hselector, hn⟩ := hread
    exact inspected_read hg ⟨_, readWindow_ok (s := dequeued s) (n := ⟨n.toNat, hn⟩) hselector rfl⟩
  · next t level hi lo count =>
    obtain ⟨ht, hl, hstart, hlow, hhigh⟩ := hread
    exact inspected_read hg
      ⟨_, readPending_ok (t := ⟨t.toNat, ht⟩) (l := ⟨level.toNat, hl⟩) rfl rfl hstart hlow hhigh⟩
  · next hi lo count =>
    obtain ⟨hlow, hhigh, hrange⟩ := hread
    exact inspected_read hg ⟨_, readMask_ok hlow hhigh hrange⟩
  · next start count =>
    obtain ⟨hstart, hlow, hhigh⟩ := hread
    exact inspected_read hg ⟨_, readFaults_ok hstart hlow hhigh⟩
  · exact hread.elim

end Sys2Proof.Proofs
end

section
/-! What READ_STATUS, READ_LINK and the table, mask and fault reads answer (11.4, 11.5). -/

open Sys2Proof Sys2Proof.Machine

namespace Sys2Proof.Proofs

/-! ## Named bits -/

theorem filled_field {w : Nat} (named unnamed free : BitVec w) {start len : Nat}
    (h : unnamed.extractLsb' start len = 0) :
    (named ||| (unnamed &&& free)).extractLsb' start len = named.extractLsb' start len := by
  rw [BitVec.extractLsb'_or, BitVec.extractLsb'_and, h]
  simp

theorem filled_bit {w : Nat} (named unnamed free : BitVec w) {j : Nat} (h : unnamed.getLsbD j = false) :
    (named ||| (unnamed &&& free)).getLsbD j = named.getLsbD j := by
  rw [BitVec.getLsbD_or, BitVec.getLsbD_and, h, Bool.false_and, Bool.or_false]

theorem shownAs_field {r : ResultByte} {b : Byte} (h : ShownAs r b) {start len : Nat}
    (hnamed : r.unnamed.extractLsb' start len = 0) : b.extractLsb' start len = r.named.extractLsb' start len := by
  obtain ⟨free, rfl⟩ := h
  exact filled_field _ _ free hnamed

theorem shownAs_bit {r : ResultByte} {b : Byte} (h : ShownAs r b) {j : Nat} (hnamed : r.unnamed.getLsbD j = false) :
    b.getLsbD j = r.named.getLsbD j := by
  obtain ⟨free, rfl⟩ := h
  exact filled_bit _ _ free hnamed

/-- A byte of four flags, in its bits 0 to 3. -/
def flagByte (a b c d : Bool) : Byte :=
  (0#4) ++ BitVec.ofBool d ++ BitVec.ofBool c ++ BitVec.ofBool b ++ BitVec.ofBool a

theorem flagByte_bits (a b c d : Bool) :
    (flagByte a b c d).getLsbD 0 = a ∧ (flagByte a b c d).getLsbD 1 = b ∧ (flagByte a b c d).getLsbD 2 = c ∧
      (flagByte a b c d).getLsbD 3 = d ∧ (flagByte a b c d).extractLsb' 4 4 = 0 := by
  revert a b c d
  decide

/-! ## READ_STATUS (R172) -/

theorem statusFlags_shown {s : State} {b : Byte} (h : ShownAs s.statusFlags b) :
    b.getLsbD 0 = (s.active == .b) ∧ b.getLsbD 1 = (s.copyState == .copying) ∧ b.getLsbD 2 = s.saving.isSome ∧
      b.getLsbD 3 = s.frozen := by
  obtain ⟨hactive, hcopy, hsaving, hfrozen, -⟩ :=
    flagByte_bits (s.active == .b) (s.copyState == .copying) s.saving.isSome s.frozen
  exact ⟨(shownAs_bit h (by decide : (0xF0#8).getLsbD 0 = false)).trans hactive,
    (shownAs_bit h (by decide : (0xF0#8).getLsbD 1 = false)).trans hcopy,
    (shownAs_bit h (by decide : (0xF0#8).getLsbD 2 = false)).trans hsaving,
    (shownAs_bit h (by decide : (0xF0#8).getLsbD 3 = false)).trans hfrozen⟩

/-- The state of the loaded image as READ_STATUS shows it (R172). -/
def loadedBytes (s : State) : List Byte :=
  s.loaded.elim [0xFF, 0, 0, 0, 0] fun im => BitVec.ofNat 8 im.slot.val :: bytesOf 4 im.generation

theorem statusResult_eq (s : State) :
    s.statusResult =
      plain [0x2E, 0x03] ++ ([s.statusFlags] ++
        plain (bytesOf 2 (BitVec.ofNat 16 s.freeCount) ++
          [BitVec.ofNat 8 s.faults.length, BitVec.ofNat 8 s.lostFaults] ++ loadedBytes s)) := by
  unfold State.statusResult loadedBytes
  rw [List.append_assoc]
  cases s.loaded <;> rfl

theorem status_shown (s : State) : ∃ flags : Byte,
    (flags.getLsbD 0 = (s.active == .b) ∧ flags.getLsbD 1 = (s.copyState == .copying) ∧
      flags.getLsbD 2 = s.saving.isSome ∧ flags.getLsbD 3 = s.frozen) ∧
    render s.draws s.statusResult =
      [0x2E, 0x03, flags] ++ (bytesOf 2 (BitVec.ofNat 16 s.freeCount) ++
        [BitVec.ofNat 8 s.faults.length, BitVec.ofNat 8 s.lostFaults] ++ loadedBytes s) := by
  have hshown := render_shown s.draws s.statusResult
  rw [statusResult_eq] at hshown ⊢
  obtain ⟨before, rest, hout, hbefore, hrest⟩ := shown_append hshown
  obtain ⟨flags, after, rfl, hflags, hafter⟩ := shown_cons hrest
  exact ⟨flags, statusFlags_shown hflags, by rw [hout, shown_plain hbefore, shown_plain hafter]; rfl⟩

theorem statusResult_unnamed (s : State) : hasUnnamed s.statusResult = true := by
  rw [statusResult_eq]
  simp [hasUnnamed, State.statusFlags]

/-! ## READ_LINK (R173) -/

theorem linkResult_eq (s : State) (l : LinkNo) :
    s.linkResult l =
      plain ([BitVec.ofNat 8 l.val, s.links[l].state.code, BitVec.ofNat 8 s.links[l].errors, s.links[l].grant] ++
        (bytesOf 3 s.links[l].record.code ++ (linkTarget l).elim [] fun t => bytesOf 3 s.timers[t].code)) := by
  unfold State.linkResult
  cases htarget : linkTarget l with
  | none => rw [linkRecordBytes_source htarget, Option.elim_none, List.append_nil]
  | some t =>
    obtain rfl := linkTarget_eq_some.1 htarget
    rw [linkRecordBytes_target, Option.elim_some]

/-! ## READ_ENTRY and READ_WINDOW (R10, R11) -/

/-- The part of a range of numbers from `a` on, `c` of them. -/
theorem finRange_window {n a c : Nat} (h : a + c ≤ n) :
    ((List.finRange n).drop a).take c =
      (List.finRange n).filter fun i => a ≤ i.val && i.val < a + c := by
  have hsorted : (((List.finRange n).drop a).take c).Pairwise (· < ·) :=
    (List.pairwise_lt_finRange n).sublist ((List.take_sublist ..).trans (List.drop_sublist ..))
  refine List.Perm.eq_of_pairwise (le := (· < ·)) (fun x y _ _ hxy hyx => absurd hxy hyx.not_gt) hsorted
    ((List.pairwise_lt_finRange n).filter _) ((List.perm_ext_iff_of_nodup (hsorted.imp fun h => h.ne)
      ((List.nodup_finRange n).filter _)).2 fun i => ?_)
  simp only [List.mem_take_iff_getElem, List.getElem_drop, List.getElem_finRange, List.mem_filter, List.mem_finRange,
    true_and, Bool.and_eq_true, decide_eq_true_eq, List.length_drop, List.length_finRange]
  refine ⟨?_, fun ⟨hlow, hhigh⟩ => ⟨i.val - a, by omega, Fin.ext (by simp only [Fin.val_cast]; omega)⟩⟩
  rintro ⟨k, hk, rfl⟩
  simp only [Fin.val_cast]
  omega

theorem entriesFrom_eq {b : Bank} {a c : Nat} (h : a + c ≤ 512) :
    b.entriesFrom a c =
      ((List.finRange 512).filter fun i => a ≤ i.val && i.val < a + c).map fun i : Index => b.entries[i] := by
  have hlist : b.entries.toList = (List.finRange 512).map fun i : Index => b.entries[i] := by
    refine List.ext_getElem (by simp) fun k hk hk' => ?_
    simp
  rw [Bank.entriesFrom, hlist, ← List.map_drop, ← List.map_take, finRange_window h]

/-- The bank that a read selects. -/
def readBank (s : State) (staging : Bool) : Bank :=
  if staging then s.stagingBank else s.activeBank

theorem selector_bank (s : State) (staging : Bool) :
    s.bank (if (if staging then 0x01 else 0x00 : Byte) = 0x01 then s.active.other else s.active) = readBank s staging := by
  cases staging <;> rfl

theorem selector_code (s : State) (staging : Bool) :
    (if (if staging then 0x01 else 0x00 : Byte) = 0x01 then s.active.other else s.active).code =
      if (s.active = .b) = (staging = false) then 0x01 else 0x00 := by
  cases staging <;> cases s.active <;> simp [BankName.other, BankName.code]

/-! ## READ_MASK (R74) -/

/-- Bit `7 - j` of a byte made of bits is the `j`-th of them, and 0 when there are not so many. -/
theorem byteOfBits_bit (bs : List Bool) {j : Nat} (hj : j < 8) : (byteOfBits bs).getLsbD (7 - j) = bs.getD j false := by
  have height : byteOfBits bs = byteOfBits ((List.finRange 8).map fun k => bs.getD k.val false) := by
    have hlist : ((List.finRange 8).map fun k => bs.getD k.val false) = [bs.getD 0 false, bs.getD 1 false,
        bs.getD 2 false, bs.getD 3 false, bs.getD 4 false, bs.getD 5 false, bs.getD 6 false, bs.getD 7 false] := rfl
    have hrange : List.range 8 = [0, 1, 2, 3, 4, 5, 6, 7] := rfl
    rw [hlist]
    simp only [byteOfBits, hrange, List.foldl_cons, List.foldl_nil]
    rfl
  rw [height]
  exact byteOfBits_getLsbD (fun k => bs.getD k.val false) ⟨j, hj⟩

theorem packBits_bit {bs : List Bool} {m j : Nat} (hj : j < 8) {b : Byte} (h : (packBits bs)[m]? = some b) :
    b.getLsbD (7 - j) = bs.getD (8 * m + j) false := by
  unfold packBits at h
  rw [List.getElem?_map, Option.map_eq_some_iff] at h
  obtain ⟨k, hk, rfl⟩ := h
  obtain ⟨hm, hmk⟩ := List.getElem?_eq_some_iff.1 hk
  rw [List.getElem_range] at hmk
  subst hmk
  rw [byteOfBits_bit _ hj, List.getD_eq_getElem?_getD, List.getElem?_drop, List.getD_eq_getElem?_getD]

theorem packBits_some {bs : List Bool} {m : Nat} (h : 8 * m < bs.length) : ∃ b, (packBits bs)[m]? = some b := by
  refine ⟨_, List.getElem?_eq_getElem ?_⟩
  rw [packBits_length]
  omega

/-- Pairs laid out one after another. -/
theorem flatMap_pair_get {α β : Type} (f g : α → β) (xs : List α) (k : Nat) :
    (xs.flatMap fun x => [f x, g x])[2 * k]? = xs[k]?.map f ∧
      (xs.flatMap fun x => [f x, g x])[2 * k + 1]? = xs[k]?.map g := by
  induction xs generalizing k with
  | nil => exact ⟨rfl, rfl⟩
  | cons x xs ih =>
    cases k with
    | zero => exact ⟨rfl, rfl⟩
    | succ k => exact ih k

theorem maskBits_get (s : State) {first count k : Nat} (hrange : first + count ≤ 512) :
    (maskBits s first count)[2 * k]? =
        (if h : k < count then some s.maskMap[first + k] else none) ∧
      (maskBits s first count)[2 * k + 1]? =
        if h : k < count then some s.latches[first + k].isSome else none := by
  obtain ⟨hflag, hlatch⟩ := flatMap_pair_get (fun i : Index => s.maskMap[i]) (fun i : Index => s.latches[i].isSome)
    (((List.finRange 512).drop first).take count) k
  unfold maskBits
  rw [hflag, hlatch]
  by_cases hk : k < count
  · rw [dif_pos hk, dif_pos hk, List.getElem?_take_of_lt hk, List.getElem?_drop,
      List.getElem?_eq_getElem (by rw [List.length_finRange]; omega)]
    simp
  · rw [dif_neg hk, dif_neg hk, List.getElem?_take_eq_none (by omega)]
    exact ⟨rfl, rfl⟩

theorem maskBits_length (s : State) {first count : Nat} (hrange : first + count ≤ 512) :
    (maskBits s first count).length = 2 * count := by
  unfold maskBits
  rw [flatMap_length_eq (n := 2) _ fun _ _ => rfl, List.length_take, List.length_drop, List.length_finRange]
  omega

/-- The bits of the index `k` of a READ_MASK range. -/
theorem maskByte_bits (s : State) {first count k : Nat} {b : Byte}
    (h : (packBits (maskBits s first count))[k / 4]? = some b) :
    b.getLsbD (7 - 2 * (k % 4)) = ((maskBits s first count)[2 * k]?).getD false ∧
      b.getLsbD (6 - 2 * (k % 4)) = ((maskBits s first count)[2 * k + 1]?).getD false := by
  have hflag := packBits_bit (j := 2 * (k % 4)) (by omega) h
  have hlatch := packBits_bit (j := 2 * (k % 4) + 1) (by omega) h
  have heven : 8 * (k / 4) + 2 * (k % 4) = 2 * k := by omega
  have hodd : 8 * (k / 4) + (2 * (k % 4) + 1) = 2 * k + 1 := by omega
  have hbit : 7 - (2 * (k % 4) + 1) = 6 - 2 * (k % 4) := by omega
  rw [heven, List.getD_eq_getElem?_getD] at hflag
  rw [hodd, hbit, List.getD_eq_getElem?_getD] at hlatch
  exact ⟨hflag, hlatch⟩

/-! ## READ_FAULTS (R136) -/

/-- Blocks of `n` bytes: the one of an element, in what is sent for all of them. -/
theorem shown_block {α : Type} {f : α → List ResultByte} {n : Nat} {xs : List α} (hlength : ∀ x ∈ xs, (f x).length = n)
    {out : List Byte} (h : Shown (xs.flatMap f) out) {k : Nat} {x : α} (hx : xs[k]? = some x) :
    Shown (f x) ((out.drop (n * k)).take n) := by
  induction xs generalizing out k with
  | nil => cases hx
  | cons y ys ih =>
    have hy : (f y).length = n := hlength y List.mem_cons_self
    obtain ⟨a, b, rfl, ha, hb⟩ := shown_append h
    have hlen : a.length = n := ha.length_eq.symm.trans hy
    cases k with
    | zero =>
      cases hx
      rw [Nat.mul_zero, List.drop_zero, ← hlen, List.take_left]
      exact ha
    | succ k =>
      have hdrop : (a ++ b).drop (n * (k + 1)) = b.drop (n * k) := by
        rw [Nat.mul_succ, Nat.add_comm, ← List.drop_drop, ← hlen, List.drop_left]
      rw [hdrop]
      exact ih (fun z hz => hlength z (List.mem_cons_of_mem _ hz)) hb hx

/-- The bytes of a block, in what it is a block of. -/
theorem getElem?_of_block {out block : List Byte} {a n j : Nat} (h : (out.drop a).take n = block) (hj : j < n) :
    out[a + j]? = block[j]? := by
  rw [← h, List.getElem?_take_of_lt hj, List.getElem?_drop]

theorem drop_of_block {out block : List Byte} {a n : Nat} (h : (out.drop a).take n = block) (m : Nat) :
    (out.drop (a + m)).take (n - m) = block.drop m := by
  rw [← h, List.drop_take, List.drop_drop]

theorem faultHead_fields (position : BitVec 3) (number : BitVec 4) :
    (position ++ (0#1) ++ number).extractLsb' 0 4 = number ∧ (position ++ (0#1) ++ number).extractLsb' 5 3 = position := by
  revert position number
  decide

theorem faultRecord_shown {position : Nat} {f : FaultRecord} {out : List Byte} (h : Shown (f.result position) out) :
    ∃ first presence : Byte,
      (first.extractLsb' 5 3 = BitVec.ofNat 3 position ∧ first.extractLsb' 0 4 = BitVec.ofNat 4 f.kind.number) ∧
      (presence.getLsbD 0 = f.link.isSome ∧ presence.getLsbD 1 = f.target.isSome ∧
        presence.getLsbD 2 = f.index.isSome ∧ presence.getLsbD 3 = f.event.isSome ∧ presence.extractLsb' 4 4 = 0) ∧
      out = first :: presence :: ([BitVec.ofNat 8 ((f.link.map Fin.val).getD 0),
          BitVec.ofNat 8 ((f.target.map Fin.val).getD 0)] ++
        bytesOf 2 (BitVec.ofNat 16 ((f.index.map Fin.val).getD 0)) ++ [f.event.getD 0] ++ bytesOf 2 f.detail) := by
  obtain ⟨first, rest, rfl, hfirst, hrest⟩ := shown_cons h
  obtain ⟨hnumber, hposition⟩ := faultHead_fields (BitVec.ofNat 3 position) (BitVec.ofNat 4 f.kind.number)
  exact ⟨first, flagByte f.link.isSome f.target.isSome f.index.isSome f.event.isSome,
    ⟨(shownAs_field hfirst (by decide : (0x10#8).extractLsb' 5 3 = 0)).trans hposition,
      (shownAs_field hfirst (by decide : (0x10#8).extractLsb' 0 4 = 0)).trans hnumber⟩, flagByte_bits ..,
    congrArg (List.cons _) (shown_plain hrest)⟩

/-- What the records of READ_FAULTS are sent as. -/
theorem faults_shown {fs : List FaultRecord} {start count : Nat} {out : List Byte}
    (h : Shown (((fs.zipIdx.drop start).take count).flatMap fun x => x.1.result x.2) out) :
    out.length = 9 * min count (fs.length - start) ∧
      ∀ (k : Nat) (f : FaultRecord), k < count → fs[start + k]? = some f →
        Shown (f.result (start + k)) ((out.drop (9 * k)).take 9) := by
  refine ⟨?_, fun k f hk hf => ?_⟩
  · have hlength := flatMap_length_eq (f := fun x : FaultRecord × Nat => x.1.result x.2) (n := 9)
      ((fs.zipIdx.drop start).take count) fun x _ => faultRecord_result_length x.2 x.1
    refine (List.Forall₂.length_eq h).symm.trans (hlength.trans ?_)
    rw [List.length_take, List.length_drop, List.length_zipIdx]
  · have hx : ((fs.zipIdx.drop start).take count)[k]? = some (f, start + k) := by
      rw [List.getElem?_take_of_lt hk, List.getElem?_drop, List.getElem?_zipIdx, hf, Option.map_some, Nat.zero_add]
    exact shown_block (f := fun x : FaultRecord × Nat => x.1.result x.2) (n := 9) (x := (f, start + k))
      (fun x _ => faultRecord_result_length x.2 x.1) h hx

theorem selector_idle {s : State} {staging : Bool} (h : staging = true → s.copyState = .idle) :
    (if staging then 0x01 else 0x00 : Byte) = 0x00 ∨
      (if staging then 0x01 else 0x00 : Byte) = 0x01 ∧ s.copyState = .idle := by
  cases staging with
  | false => exact .inl rfl
  | true => exact .inr ⟨rfl, h rfl⟩

theorem readEntry_bytes {s : State} {first : Half} {count : Byte} {staging : Bool}
    (hidle : staging = true → s.copyState = .idle) (hlow : 1 ≤ count.toNat) (hhigh : count.toNat ≤ 4)
    (hrange : first.toNat + count.toNat ≤ 512) :
    State.readEntry ((if staging then 0x01 else 0x00) :: (bytesOf 2 first ++ [count])) s =
      .ok (plain ((if (s.active = .b) = (staging = false) then (0x01 : Byte) else 0x00) ::
        ((List.finRange 512).filter fun i => first.toNat ≤ i.val && i.val < first.toNat + count.toNat).flatMap
          fun i => bytesOf 4 (readBank s staging).entries[i].code)) := by
  have hread := readEntry_ok (hi := first.extractLsb' 8 8) (lo := first.extractLsb' 0 8) (selector_idle hidle) hlow hhigh
    (by rw [half_of_bytes]; exact hrange)
  rw [half_of_bytes, selector_code, selector_bank, entriesFrom_eq hrange, List.flatMap_map] at hread
  exact hread

theorem readWindow_bytes {s : State} {staging : Bool} (hidle : staging = true → s.copyState = .idle) (n : SourceNo) :
    State.readWindow [if staging then 0x01 else 0x00, BitVec.ofNat 8 n.val] s =
      .ok (plain ((if (s.active = .b) = (staging = false) then (0x01 : Byte) else 0x00) :: BitVec.ofNat 8 n.val ::
        bytesOf 2 (readBank s staging).windows[n].code)) := by
  have hread := readWindow_ok (s := s) (source := BitVec.ofNat 8 n.val) (selector_idle hidle) (n := n)
    (by rw [length_byte (by omega)])
  rwa [selector_code, selector_bank] at hread

theorem readMask_bytes {s : State} {first : Half} {count : Byte} (hlow : 1 ≤ count.toNat) (hhigh : count.toNat ≤ 64)
    (hrange : first.toNat + count.toNat ≤ 512) :
    State.readMask (bytesOf 2 first ++ [count]) s =
      .ok (plain (bytesOf 2 first ++ count :: packBits (maskBits s first.toNat count.toNat))) := by
  have hread := readMask_ok (s := s) (hi := first.extractLsb' 8 8) (lo := first.extractLsb' 0 8) hlow hhigh
    (by rw [half_of_bytes]; exact hrange)
  rw [half_of_bytes] at hread
  exact hread

/-- Settles O54: the results of each read, from those of its body. -/
theorem readResultsShowState : Obligations.ReadResultsShowState := by
  intro s r
  refine ⟨fun hg => ?status, fun l hg => ?link, fun first count staging hg hidle hlow hhigh hrange => ?entry,
    fun n staging hg hidle => ?window, fun first count hg hlow hhigh hrange => ?mask,
    fun start count hg hstart hlow hhigh _ => ?faults⟩
  case status =>
    obtain ⟨flags, ⟨hactive, hcopy, hsaving, hfrozen⟩, hbytes⟩ := status_shown s
    refine ⟨flags, hactive, hcopy, hsaving, hfrozen, ?_⟩
    rw [show exec .readStatus s = _ from exec_granted 0 hg]
    refine congrArg Host.Outcome.next
      ((inspected_drawn hg (results := s.statusResult) rfl (statusResult_unnamed s)).trans ?_)
    rw [hbytes, loadedBytes]
    cases s.loaded <;> rfl
  case link =>
    rw [show exec .readLink s = _ from exec_granted 0 hg]
    have hread : State.readLink [BitVec.ofNat 8 l.val] (dequeued s) = .ok (s.linkResult l) :=
      readLink_ok (by rw [length_byte (by omega)])
    refine congrArg Host.Outcome.next ((inspected_ok hg (hread.trans (congrArg Reply.ok (linkResult_eq s l)))).trans ?_)
    rw [← List.append_assoc]
    cases linkTarget l <;> cases s.links[l].state <;> rfl
  case entry =>
    intro bank
    rw [show exec .readEntry s = _ from exec_granted 0 hg]
    exact congrArg Host.Outcome.next
      (inspected_ok hg (readEntry_bytes (s := dequeued s) hidle hlow hhigh hrange))
  case window =>
    intro bank
    rw [show exec .readWindow s = _ from exec_granted 0 hg]
    exact congrArg Host.Outcome.next (inspected_ok hg (readWindow_bytes (s := dequeued s) hidle n))
  case mask =>
    rw [show exec .readMask s = _ from exec_granted 0 hg]
    refine ⟨packBits (maskBits s first.toNat count.toNat),
      congrArg Host.Outcome.next (inspected_ok hg (readMask_bytes (s := dequeued s) hlow hhigh hrange)), ?_,
      fun k i hk hi => ?_, fun k b hk hb => ?_⟩
    · rw [packBits_length, maskBits_length s hrange]
    · obtain ⟨b, hb⟩ := packBits_some (bs := maskBits s first.toNat count.toNat) (m := k / 4)
        (by rw [maskBits_length s hrange]; omega)
      obtain ⟨hflag, hlatch⟩ := maskByte_bits s hb
      obtain ⟨hflag', hlatch'⟩ := maskBits_get s (k := k) hrange
      rw [hflag', dif_pos hk] at hflag
      rw [hlatch', dif_pos hk] at hlatch
      refine ⟨b, hb, ?_, ?_⟩
      · simpa only [Option.getD_some, ← hi, Fin.getElem_fin] using hflag
      · simpa only [Option.getD_some, ← hi, Fin.getElem_fin] using hlatch
    · obtain ⟨hflag, hlatch⟩ := maskByte_bits s hb
      obtain ⟨hflag', hlatch'⟩ := maskBits_get s (k := k) hrange
      rw [hflag', dif_neg (by omega)] at hflag
      rw [hlatch', dif_neg (by omega)] at hlatch
      exact ⟨hflag, hlatch⟩
  case faults =>
    obtain ⟨draws, hdraws⟩ := inspected_answers hg (readFaults_ok (s := dequeued s) hstart hlow hhigh)
    obtain ⟨before, out, hout, hbefore, hshown⟩ := shown_append (render_shown s.draws
      (plain [BitVec.ofNat 8 s.faults.length, BitVec.ofNat 8 s.lostFaults] ++
        ((s.faults.zipIdx.drop start.toNat).take count.toNat).flatMap fun x => x.1.result x.2))
    obtain ⟨hlength, hblocks⟩ := faults_shown hshown
    rw [show exec .readFaults s = _ from exec_granted 0 hg]
    refine ⟨out, draws, congrArg Host.Outcome.next (hdraws.trans ?_), hlength, fun k f hk hf => ?_⟩
    · exact congrArg _ (hout.trans (by rw [shown_plain hbefore]))
    · obtain ⟨first, presence, hfirst, hpresence, hblock⟩ := faultRecord_shown (hblocks k f hk hf)
      refine ⟨⟨first, getElem?_of_block hblock (by decide : 0 < 9), hfirst⟩,
        ⟨presence, getElem?_of_block hblock (by decide : 1 < 9), hpresence⟩, (drop_of_block hblock 2).trans ?_⟩
      cases f.link <;> cases f.target <;> cases f.index <;> rfl

end Sys2Proof.Proofs
end

section
/-! What READ_TARGET and READ_PENDING answer (R38, R176, R201, 11.5). -/

open Sys2Proof Sys2Proof.Machine

namespace Sys2Proof.Proofs

/-! ## READ_TARGET, part STATE -/

theorem offerByte_fields (present void : Bool) (retries : Option (Fin 8)) :
    (offerByte present void retries).named.getLsbD 7 = present ∧
      (offerByte present void retries).named.getLsbD 6 = void ∧
      (offerByte present void retries).named.extractLsb' 0 4 =
        (retries.map fun n => BitVec.ofNat 4 n.val).getD 0xF := by
  revert present void retries
  decide

theorem offerByte_shown {present void : Bool} {retries : Option (Fin 8)} {b : Byte}
    (h : ShownAs (offerByte present void retries) b) :
    b.getLsbD 7 = present ∧ b.getLsbD 6 = void ∧
      b.extractLsb' 0 4 = (retries.map fun n => BitVec.ofNat 4 n.val).getD 0xF := by
  obtain ⟨hpresent, hvoid, hretries⟩ := offerByte_fields present void retries
  exact ⟨(shownAs_bit h (by decide : (0x30#8).getLsbD 7 = false)).trans hpresent,
    (shownAs_bit h (by decide : (0x30#8).getLsbD 6 = false)).trans hvoid,
    (shownAs_field h (by decide : (0x30#8).extractLsb' 0 4 = 0)).trans hretries⟩

/-- The record under the target's offer, when it is void: the bit that READ_TARGET shows. -/
def shownVoid (s : State) (t : TargetNo) : Bool :=
  (((s.targets[t].offer.bind fun o => s.recordAt o.slot).bind Record.offer).map OfferMark.void).getD false

theorem shownVoid_none {s : State} {t : TargetNo} (h : s.targets[t].offer = none) : shownVoid s t = false := by
  rw [shownVoid, h]
  rfl

theorem shownVoid_current {s : State} {t : TargetNo} {o : Offer} {x : Record} {m : OfferMark}
    (h : s.currentOffer t = some (o, x, m)) : shownVoid s t = m.void := by
  obtain ⟨-, hoffer, hrecord, hmark⟩ := State.currentOffer_some h
  rw [shownVoid, hoffer, Option.bind_some, hrecord, Option.bind_some, hmark]
  rfl

theorem targetResult_eq (s : State) (t : TargetNo) :
    s.targetResult t =
      plain [BitVec.ofNat 8 t.val, s.targets[t].state.code, BitVec.ofNat 8 s.targets[t].threshold.val,
          BitVec.ofNat 8 s.targets[t].wakeLevel.val, s.targets[t].tagCounter] ++
        ([offerByte s.targets[t].offer.isSome (shownVoid s t) s.targets[t].retriesLeft] ++
          plain ((s.targets[t].offer.elim [0, 0, 0] fun o => o.tag :: bytesOf 2 (BitVec.ofNat 16 o.slot.val)) ++
            BitVec.ofNat 8 s.targets[t].stack.length ::
              (List.finRange 8).flatMap fun l => bytesOf 2 (BitVec.ofNat 16 (s.levelList t l).length))) := by
  unfold State.targetResult shownVoid
  rw [List.append_assoc]
  cases s.targets[t].offer with
  | none => rfl
  | some o =>
    cases hrecord : s.recordAt o.slot with
    | none => simp only [Option.bind_some, hrecord]; rfl
    | some x => simp only [Option.bind_some, hrecord]; rfl

theorem target_shown (s : State) (t : TargetNo) : ∃ offer : Byte,
    (offer.getLsbD 7 = s.targets[t].offer.isSome ∧ offer.getLsbD 6 = shownVoid s t ∧
      offer.extractLsb' 0 4 = (s.targets[t].retriesLeft.map fun n => BitVec.ofNat 4 n.val).getD 0xF) ∧
    render s.draws (s.targetResult t) =
      [BitVec.ofNat 8 t.val, s.targets[t].state.code, BitVec.ofNat 8 s.targets[t].threshold.val,
          BitVec.ofNat 8 s.targets[t].wakeLevel.val, s.targets[t].tagCounter, offer] ++
        ((s.targets[t].offer.elim [0, 0, 0] fun o => o.tag :: bytesOf 2 (BitVec.ofNat 16 o.slot.val)) ++
          BitVec.ofNat 8 s.targets[t].stack.length ::
            (List.finRange 8).flatMap fun l => bytesOf 2 (BitVec.ofNat 16 (s.levelList t l).length)) := by
  have hshown := render_shown s.draws (s.targetResult t)
  rw [targetResult_eq] at hshown ⊢
  obtain ⟨before, rest, hout, hbefore, hrest⟩ := shown_append hshown
  obtain ⟨offer, after, rfl, hoffer, hafter⟩ := shown_cons hrest
  exact ⟨offer, offerByte_shown hoffer, by rw [hout, shown_plain hbefore, shown_plain hafter]; rfl⟩

/-! ## READ_TARGET, parts of the stack -/

theorem inServiceHead_fields (position level : BitVec 3) :
    ((0#1) ++ position ++ (0#1) ++ level).extractLsb' 4 3 = position ∧
      ((0#1) ++ position ++ (0#1) ++ level).extractLsb' 0 3 = level := by
  revert position level
  decide

theorem inService_shown {position : Nat} {e : InService} {out : List Byte} (h : Shown (e.result position) out) :
    ∃ b : Byte, out = [b, e.vector] ++ bytesOf 2 (BitVec.ofNat 16 e.index.val) ++
        [BitVec.ofNat 8 e.origin.source.val, e.origin.event, e.claimTag] ∧
      b.extractLsb' 4 3 = BitVec.ofNat 3 position ∧ b.extractLsb' 0 3 = BitVec.ofNat 3 e.level.val := by
  obtain ⟨b, rest, rfl, hb, hrest⟩ := shown_cons h
  obtain ⟨hposition, hlevel⟩ := inServiceHead_fields (BitVec.ofNat 3 position) (BitVec.ofNat 3 e.level.val)
  exact ⟨b, congrArg (List.cons b) (shown_plain hrest),
    (shownAs_field hb (by decide : (0x88#8).extractLsb' 4 3 = 0)).trans hposition,
    (shownAs_field hb (by decide : (0x88#8).extractLsb' 0 3 = 0)).trans hlevel⟩

/-- What the entries of a part of the stack are sent as. -/
theorem stack_shown {es : List InService} {start : Nat} {out : List Byte}
    (h : Shown (((es.zipIdx.drop start).take 4).flatMap fun x => x.1.result x.2) out) :
    out.length = 7 * min 4 (es.length - start) ∧
      ∀ (k : Nat) (e : InService), k < 4 → es[start + k]? = some e →
        Shown (e.result (start + k)) ((out.drop (7 * k)).take 7) := by
  refine ⟨?_, fun k e hk he => ?_⟩
  · have hlength := flatMap_length_eq (f := fun x : InService × Nat => x.1.result x.2) (n := 7)
      ((es.zipIdx.drop start).take 4) fun x _ => inService_result_length x.2 x.1
    refine (List.Forall₂.length_eq h).symm.trans (hlength.trans ?_)
    rw [List.length_take, List.length_drop, List.length_zipIdx]
  · have hx : ((es.zipIdx.drop start).take 4)[k]? = some (e, start + k) := by
      rw [List.getElem?_take_of_lt hk, List.getElem?_drop, List.getElem?_zipIdx, he, Option.map_some, Nat.zero_add]
    exact shown_block (f := fun x : InService × Nat => x.1.result x.2) (n := 7) (x := (e, start + k))
      (fun x _ => inService_result_length x.2 x.1) h hx

/-! ## The records of READ_PENDING -/

theorem half_shown {named unnamed : Half} {out : List Byte} (h : Shown (halfResult named unnamed) out) :
    ∃ free : Half, out = bytesOf 2 (named ||| (unnamed &&& free)) := by
  obtain ⟨hi, rest, rfl, ⟨high, rfl⟩, hrest⟩ := shown_cons h
  obtain ⟨lo, none, rfl, ⟨low, rfl⟩, hnone⟩ := shown_cons hrest
  obtain rfl := List.forall₂_nil_left_iff.1 hnone
  refine ⟨high ++ low, ?_⟩
  rw [bytesOf_two, BitVec.extractLsb'_or, BitVec.extractLsb'_and, BitVec.extractLsb'_or, BitVec.extractLsb'_and,
    BitVec.extractLsb'_append_eq_left, BitVec.extractLsb'_append_eq_right]

theorem markBits_fields (mode : BitVec 2) (marked void : Bool) (length : BitVec 2) :
    let bits : BitVec 7 := mode ++ BitVec.ofBool marked ++ BitVec.ofBool void ++ (0#1) ++ length
    bits.extractLsb' 5 2 = mode ∧ bits.getLsbD 4 = marked ∧ bits.getLsbD 3 = void ∧ bits.extractLsb' 0 2 = length := by
  revert mode marked void length
  decide

theorem markHalf_fields (mode : BitVec 2) (marked void : Bool) (length : BitVec 2) (position : BitVec 9) (free : Half) :
    let a : Half := (mode ++ BitVec.ofBool marked ++ BitVec.ofBool void ++ (0#1) ++ length ++ position) |||
      (0x0800 &&& free)
    a.extractLsb' 14 2 = mode ∧ a.getLsbD 13 = marked ∧ a.getLsbD 12 = void ∧ a.extractLsb' 9 2 = length ∧
      a.extractLsb' 0 9 = position := by
  obtain ⟨hmode, hmarked, hvoid, hlength⟩ := markBits_fields mode marked void length
  exact ⟨((filled_field _ _ free (by decide)).trans (BitVec.extractLsb'_append_eq_of_le (by decide))).trans hmode,
    ((filled_bit _ _ free (by decide)).trans BitVec.getLsbD_append).trans hmarked,
    ((filled_bit _ _ free (by decide)).trans BitVec.getLsbD_append).trans hvoid,
    ((filled_field _ _ free (by decide)).trans (BitVec.extractLsb'_append_eq_of_le (by decide))).trans hlength,
    (filled_field _ _ free (by decide)).trans BitVec.extractLsb'_append_eq_right⟩

theorem numberHalf_fields (number : BitVec 4) (index : BitVec 9) (free : Half) :
    let a : Half := (number ++ (0#3) ++ index) ||| (0x0E00 &&& free)
    a.extractLsb' 12 4 = number ∧ a.extractLsb' 0 9 = index := by
  refine ⟨(filled_field _ _ free (by decide)).trans ?_,
    (filled_field _ _ free (by decide)).trans BitVec.extractLsb'_append_eq_right⟩
  rw [BitVec.extractLsb'_append_eq_of_le (by decide)]
  exact BitVec.extractLsb'_append_eq_left

theorem record_shown {position : Nat} {x : Record} {out : List Byte} (h : Shown (x.result position) out) :
    ∃ a b c : Half, out = bytesOf 2 a ++ bytesOf 2 b ++ bytesOf 2 c ++
        ([x.vector, x.origin.event, (x.offer.map OfferMark.tag).getD 0] ++ x.payload.flatMap (bytesOf 4)) ∧
      (a.extractLsb' 14 2 = x.mode.code ∧ a.getLsbD 13 = x.offer.isSome ∧
        a.getLsbD 12 = (x.offer.map OfferMark.void).getD false ∧
        a.extractLsb' 9 2 = BitVec.ofNat 2 x.payload.length ∧ a.extractLsb' 0 9 = BitVec.ofNat 9 position) ∧
      (b.extractLsb' 12 4 = BitVec.ofNat 4 (x.count.getD 0) ∧ b.extractLsb' 0 9 = BitVec.ofNat 9 x.slot.val) ∧
      c.extractLsb' 12 4 = BitVec.ofNat 4 x.origin.source.val ∧ c.extractLsb' 0 9 = BitVec.ofNat 9 x.index.val := by
  obtain ⟨halves, bytes, rfl, hhalves, hbytes⟩ := shown_append h
  obtain ⟨first, third, rfl, hfirst, hthird⟩ := shown_append hhalves
  obtain ⟨one, two, rfl, hone, htwo⟩ := shown_append hfirst
  obtain ⟨freeA, rfl⟩ := half_shown hone
  obtain ⟨freeB, rfl⟩ := half_shown htwo
  obtain ⟨freeC, rfl⟩ := half_shown hthird
  exact ⟨_, _, _, by rw [shown_plain hbytes], markHalf_fields .., numberHalf_fields .., numberHalf_fields ..⟩

/-- The bytes that records take in a response (11.5). -/
def recordsSize (rs : List Record) : Nat :=
  (rs.map fun x => 9 + 4 * x.payload.length).sum

/-- The records' results, with the positions from the given one on. -/
def recordsResult (position : Nat) (rs : List Record) : List (List ResultByte) :=
  (rs.zipIdx position).map fun x => x.1.result x.2

/-- The response carries the longest part that the count, the list and the room allow (R201). -/
theorem carriedRecords_eq (count position room : Nat) (rs : List Record) : ∃ n,
    carriedRecords count position room rs = recordsResult position (rs.take n) ∧ n ≤ count ∧ n ≤ rs.length ∧
      recordsSize (rs.take n) ≤ room ∧ (n = count ∨ n = rs.length ∨ room < recordsSize (rs.take (n + 1))) := by
  induction count generalizing position room rs with
  | zero => exact ⟨0, rfl, Nat.le_refl _, Nat.zero_le _, Nat.zero_le _, .inl rfl⟩
  | succ count ih =>
    cases rs with
    | nil => exact ⟨0, rfl, Nat.zero_le _, Nat.le_refl _, Nat.zero_le _, .inr (.inl rfl)⟩
    | cons x xs =>
      have hlength := record_result_length position x
      by_cases hfit : (x.result position).length ≤ room
      · obtain ⟨n, hcarried, hcount, hlist, hsize, hfull⟩ := ih (position + 1) (room - (x.result position).length) xs
        have hsum : ∀ m, recordsSize ((x :: xs).take (m + 1)) = 9 + 4 * x.payload.length + recordsSize (xs.take m) :=
          fun m => rfl
        refine ⟨n + 1, ?_, by omega, by rw [List.length_cons]; omega, by rw [hsum]; omega, ?_⟩
        · rw [carriedRecords, if_pos hfit, hcarried]
          rfl
        · rw [hsum, List.length_cons]
          omega
      · refine ⟨0, ?_, Nat.zero_le _, Nat.zero_le _, Nat.zero_le _, .inr (.inr ?_)⟩
        · rw [carriedRecords]
          exact if_neg hfit
        · have hone : recordsSize ((x :: xs).take 1) = 9 + 4 * x.payload.length := rfl
          rw [hone]
          omega

theorem records_shown {position : Nat} {rs : List Record} {out : List Byte}
    (h : Shown (recordsResult position rs).flatten out) :
    out.length = recordsSize rs ∧
      ∀ (k : Nat) (x : Record), rs[k]? = some x →
        Shown (x.result (position + k))
          ((out.drop (recordsSize (rs.take k))).take (9 + 4 * x.payload.length)) := by
  induction rs generalizing position out with
  | nil =>
    obtain rfl := List.forall₂_nil_left_iff.1 h
    exact ⟨rfl, fun k x hx => by cases hx⟩
  | cons y ys ih =>
    obtain ⟨a, b, rfl, ha, hb⟩ := shown_append (xs := y.result position) h
    obtain ⟨hlength, hrecords⟩ := ih (position := position + 1) hb
    have hlen : a.length = 9 + 4 * y.payload.length := ha.length_eq.symm.trans (record_result_length position y)
    refine ⟨?_, fun k x hx => ?_⟩
    · rw [List.length_append, hlen, hlength]
      rfl
    · cases k with
      | zero =>
        cases hx
        have hblock : (a ++ b).take (9 + 4 * y.payload.length) = a := by rw [← hlen, List.take_left]
        exact hblock.symm ▸ ha
      | succ k =>
        have hrecord := hrecords k x hx
        have hsum : recordsSize ((y :: ys).take (k + 1)) = a.length + recordsSize (ys.take k) := by rw [hlen]; rfl
        rw [hsum, ← List.drop_drop, List.drop_left, Nat.add_comm k, ← Nat.add_assoc]
        exact hrecord

theorem recordsResult_length (position : Nat) (rs : List Record) : (recordsResult position rs).length = rs.length := by
  rw [recordsResult, List.length_map, List.length_zipIdx]

theorem pendingResult_eq {s : State} {t : TargetNo} {l : Level} {start count n : Nat}
    (hcarried : carriedRecords count start 41 ((s.levelList t l).drop start) =
      recordsResult start (((s.levelList t l).drop start).take n))
    (hlist : n ≤ ((s.levelList t l).drop start).length) :
    s.pendingResult t l start count =
      plain ([BitVec.ofNat 8 t.val, BitVec.ofNat 8 l.val] ++ bytesOf 2 (BitVec.ofNat 16 (s.levelList t l).length) ++
        [BitVec.ofNat 8 n]) ++ (recordsResult start (((s.levelList t l).drop start).take n)).flatten := by
  have hresult : s.pendingResult t l start count =
      plain ([BitVec.ofNat 8 t.val, BitVec.ofNat 8 l.val] ++ bytesOf 2 (BitVec.ofNat 16 (s.levelList t l).length) ++
        [BitVec.ofNat 8 (carriedRecords count start 41 ((s.levelList t l).drop start)).length]) ++
      (carriedRecords count start 41 ((s.levelList t l).drop start)).flatten := rfl
  rw [hresult, hcarried, recordsResult_length, List.length_take, Nat.min_eq_left hlist]

/-- What the records of a READ_PENDING response are sent as, one after another. -/
theorem pending_shown {s : State} {t : TargetNo} {l : Level} {start count n : Nat}
    (hcarried : carriedRecords count start 41 ((s.levelList t l).drop start) =
      recordsResult start (((s.levelList t l).drop start).take n))
    (hlist : n ≤ ((s.levelList t l).drop start).length) (draw : Nat) :
    ∃ entries : List Byte,
      render draw (s.pendingResult t l start count) =
        [BitVec.ofNat 8 t.val, BitVec.ofNat 8 l.val] ++ bytesOf 2 (BitVec.ofNat 16 (s.levelList t l).length) ++
          [BitVec.ofNat 8 n] ++ entries ∧
      Shown (recordsResult start (((s.levelList t l).drop start).take n)).flatten entries := by
  have hshown := render_shown draw (s.pendingResult t l start count)
  obtain ⟨before, entries, hout, hbefore, hentries⟩ := shown_append (pendingResult_eq hcarried hlist ▸ hshown)
  exact ⟨entries, by rw [pendingResult_eq hcarried hlist, hout, shown_plain hbefore], hentries⟩

/-- Settles O55: the results of each part of READ_TARGET and of READ_PENDING, from those of their bodies. -/
theorem targetAndPoolResultsShowState : Obligations.TargetAndPoolResultsShowState := by
  intro s r t
  refine ⟨fun hg => ?state, fun high hg => ?stack, fun l start count hg hstart hlow hhigh _ => ?pending⟩
  case state =>
    obtain ⟨offer, ⟨hpresent, hvoid, hretries⟩, hbytes⟩ := target_shown s t
    obtain ⟨draws, hdraws⟩ := inspected_answers hg
      (readTarget_ok (s := dequeued s) (t := t) (by rw [length_byte (by omega)]) (by decide : (0x00 : Byte).toNat < 3))
    have hresult : render s.draws ((dequeued s).targetResult t) = _ := hbytes
    rw [if_pos rfl, hresult] at hdraws
    refine ⟨offer, ⟨draws, ?_⟩, hpresent, fun hnone => hvoid.trans (shownVoid_none hnone),
      fun o x m hcurrent => hvoid.trans (shownVoid_current hcurrent), ?_⟩
    · rw [show exec .readTarget s = _ from exec_granted 0 hg]
      refine congrArg Host.Outcome.next (hdraws.trans (congrArg _ ?_))
      cases s.targets[t].offer <;> cases s.targets[t].state <;> rfl
    · rw [hretries]
      cases s.targets[t].retriesLeft <;> rfl
  case stack =>
    intro first
    have hread : State.readTarget [BitVec.ofNat 8 t.val, if high then 0x02 else 0x01] (dequeued s) =
        .ok (s.stackResult t first) := by
      rw [readTarget_ok (s := dequeued s) (t := t) (by rw [length_byte (by omega)]) (by cases high <;> decide)]
      cases high <;> rfl
    obtain ⟨draws, hdraws⟩ := inspected_answers hg hread
    obtain ⟨before, entries, hout, hbefore, hentries⟩ := shown_append
      (xs := plain [BitVec.ofNat 8 t.val, BitVec.ofNat 8 s.targets[t].stack.length])
      (render_shown s.draws (s.stackResult t first))
    obtain ⟨hlength, hblocks⟩ := stack_shown hentries
    rw [hout, shown_plain hbefore] at hdraws
    refine ⟨entries, ⟨draws, ?_⟩, by rw [hlength, List.length_reverse],
      fun k e hk he => inService_shown (hblocks k e hk he)⟩
    rw [show exec .readTarget s = _ from exec_granted 0 hg]
    exact congrArg Host.Outcome.next hdraws
  case pending =>
    intro held size
    obtain ⟨n, hcarried, hcount, hlist, hsize, hfull⟩ := carriedRecords_eq count.toNat start.toNat 41 held
    have hread := readPending_ok (s := dequeued s) (t := t) (l := l) (b := BitVec.ofNat 8 t.val)
      (level := BitVec.ofNat 8 l.val) (hi := start.extractLsb' 8 8) (lo := start.extractLsb' 0 8)
      (by rw [length_byte (by omega)]) (by rw [length_byte (by omega)]) (by rw [half_of_bytes]; omega) hlow hhigh
    rw [half_of_bytes] at hread
    obtain ⟨draws, hdraws⟩ := inspected_answers hg hread
    obtain ⟨entries, hout, hentries⟩ := pending_shown hcarried hlist s.draws
    obtain ⟨hlength, hblocks⟩ := records_shown hentries
    refine ⟨n, entries, ⟨draws, ?_⟩, hcount, hlist, hlength, hsize, hfull, fun k x hk hx => ?_⟩
    · rw [show exec .readPending s = _ from exec_granted 0 hg]
      exact congrArg Host.Outcome.next (hdraws.trans (congrArg _ hout))
    · have hblock := hblocks k x (by rw [List.getElem?_take_of_lt hk]; exact hx)
      rw [List.take_take, Nat.min_eq_left hk.le] at hblock
      obtain ⟨a, b, c, hbytes, ⟨hmode, hmarked, hvoid, hpayload, hposition⟩, ⟨hnumber, hslot⟩, hsource, hindex⟩ :=
        record_shown hblock
      refine ⟨a, b, c, hbytes.trans ?_, hmode.trans ?_, hmarked, hvoid.trans ?_, hpayload, hposition, hnumber, hslot,
        hsource, hindex⟩
      · cases x.offer <;> rfl
      · cases x.mode <;> rfl
      · cases x.offer <;> rfl

end Sys2Proof.Proofs
end

section
/-! A request answered with a status other than OK changes nothing but the queue it leaves (R164, R165). -/

open Sys2Proof Sys2Proof.Machine

namespace Sys2Proof.Proofs

/-! ## How a request leaves the step that takes it -/

/-- `Treated s r t`: from `s`, the request is turned away with nothing else changed, or its link gets no frame in this
step, or the last frame that its link gets is a response OK. -/
inductive Treated (s : State) (r : Request) : State → Prop where
  | refused (status : Status) : Treated s r (s.responded r status [])
  | silent {t : State} (h : t.links[r.link].transmit = s.links[r.link].transmit) : Treated s r t
  | answered {t : State} (front : List Queued) (results : List Byte) (thenReset : Bool)
      (h : t.links[r.link].transmit =
        front ++ [{ frame := .response r.sequence .ok results, thenReset := thenReset }]) : Treated s r t

theorem responded_transmit (s : State) (r : Request) (status : Status) (results : List Byte) :
    (s.responded r status results).links[r.link].transmit =
      s.links[r.link].transmit ++ [{ frame := .response r.sequence status results, thenReset := false }] :=
  congrArg Link.transmit (State.withLink_self (dequeued s) r.link _)

theorem Treated.of_response {s t : State} {r : Request} (h : Treated s r t) {q : Queued} {sequence : Byte}
    {status : Status} {results : List Byte} (hlast : t.links[r.link].transmit = s.links[r.link].transmit ++ [q])
    (hframe : q.frame = .response sequence status results) (hstatus : status ≠ .ok) :
    results = [] ∧ t = s.responded r status [] := by
  cases h with
  | refused given =>
    rw [responded_transmit] at hlast
    obtain ⟨-, hq⟩ := List.append_inj' hlast rfl
    cases hq
    cases hframe
    exact ⟨rfl, rfl⟩
  | silent hsame =>
    rw [hsame] at hlast
    exact absurd (congrArg List.length hlast) (by rw [List.length_append, List.length_singleton]; omega)
  | answered front given thenReset hgiven =>
    rw [hgiven] at hlast
    obtain ⟨-, hq⟩ := List.append_inj' hlast rfl
    cases hq
    cases hframe
    exact absurd rfl hstatus

/-! ## Answers -/

/-- The session of the request lasts. -/
def Lasts (b : State) (r : Request) : Prop :=
  b.links[r.link].state = .up ∧ b.links[r.link].session = r.session

theorem lasts_of_asked {s : State} {op : Operation} {r : Request} (h : Asked s op r) : Lasts s r := by
  obtain ⟨-, -, hup, hsession⟩ := h
  exact ⟨isUp_iff.1 hup, hsession⟩

theorem Treated.of_ok {s b : State} {r : Request} (h : Lasts b r) (results : List ResultByte) (thenReset : Bool) :
    Treated s r (b.answer r (.ok results) thenReset) := by
  obtain ⟨hup, hsession⟩ := h
  refine .answered b.links[r.link].transmit (render b.draws results) thenReset ?_
  have hlinks : (b.answer r (.ok results) thenReset).links =
      (b.handOver r.link r.session
        { frame := .response r.sequence .ok (render b.draws results), thenReset := thenReset }).links := by
    unfold State.answer
    dsimp only
    split <;> rfl
  rw [hlinks, State.handOver_present _ (isUp_iff.2 hup) hsession, State.withLink_self]

theorem Treated.of_fail {s : State} {op : Operation} {r : Request} (h : Asked s op r) (status : Status) :
    Treated s r ((dequeued s).answer r (.fail status) false) :=
  fail_asked h status ▸ .refused status

/-! ## The operations answered in the step that takes them -/

/-- A body that turns a request away leaves the state; one that takes it leaves the session of every link. -/
inductive Served (s : State) : State × Reply → Prop where
  | refused (status : Status) : Served s (s, .fail status)
  | taken {b : State} (results : List ResultByte)
      (hlive : ∀ m : LinkNo, b.links[m].state = s.links[m].state ∧ b.links[m].session = s.links[m].session) :
      Served s (b, .ok results)

theorem Served.read {s : State} (results : List ResultByte) : Served s (s, .ok results) :=
  .taken results fun _ => ⟨rfl, rfl⟩

theorem Served.changed {s b : State} (h : b.links = s.links) (results : List ResultByte) : Served s (b, .ok results) :=
  .taken results fun m => by rw [h]; exact ⟨rfl, rfl⟩

theorem Treated.of_served {s : State} {op : Operation} {r : Request} (h : Asked s op r)
    {body : List Byte → State → State × Reply} (hbody : ∀ operands s, Served s (body operands s)) :
    Treated s r (performed body r (dequeued s)) := by
  have hserved := hbody r.operands (dequeued s)
  unfold performed
  generalize body r.operands (dequeued s) = out at hserved ⊢
  cases hserved with
  | refused status => exact .of_fail h status
  | taken results hlive =>
    obtain ⟨hup, hsession⟩ := lasts_of_asked h
    obtain ⟨hstate, hsame⟩ := hlive r.link
    exact .of_ok ⟨hstate.trans hup, hsame.trans hsession⟩ results false

theorem Treated.of_read {s : State} {op : Operation} {r : Request} (h : Asked s op r)
    {body : List Byte → State → Reply} (hbody : ∀ operands s, Served s (s, body operands s)) :
    Treated s r (inspected body r (dequeued s)) :=
  .of_served (body := fun operands taken => (taken, body operands taken)) h hbody

theorem readStatus_served (operands : List Byte) (s : State) : Served s (s, State.readStatus operands s) := by
  unfold State.readStatus
  split
  · exact .read _
  · exact .refused _

theorem readLink_served (operands : List Byte) (s : State) : Served s (s, State.readLink operands s) := by
  unfold State.readLink
  split
  · split
    · exact .read _
    · exact .refused _
  · exact .refused _

theorem readTarget_served (operands : List Byte) (s : State) : Served s (s, State.readTarget operands s) := by
  unfold State.readTarget
  split
  · split
    · exact .refused _
    · split
      · exact .read _
      · exact .read _
      · exact .read _
      · exact .refused _
  · exact .refused _

theorem readEntry_served (operands : List Byte) (s : State) : Served s (s, State.readEntry operands s) := by
  unfold State.readEntry
  split
  · dsimp only
    split
    · exact .refused _
    · split
      · exact .refused _
      · split
        · exact .refused _
        · split
          · exact .read _
          · exact .refused _
  · exact .refused _

theorem readWindow_served (operands : List Byte) (s : State) : Served s (s, State.readWindow operands s) := by
  unfold State.readWindow
  split
  · dsimp only
    split
    · exact .refused _
    · split
      · split
        · exact .read _
        · exact .refused _
      · exact .refused _
  · exact .refused _

theorem readPending_served (operands : List Byte) (s : State) : Served s (s, State.readPending operands s) := by
  unfold State.readPending
  split
  · split
    · dsimp only
      split
      · exact .refused _
      · exact .read _
    · exact .refused _
  · exact .refused _

theorem readMask_served (operands : List Byte) (s : State) : Served s (s, State.readMask operands s) := by
  unfold State.readMask
  split
  · dsimp only
    split
    · exact .refused _
    · split
      · exact .refused _
      · exact .read _
  · exact .refused _

theorem readFaults_served (operands : List Byte) (s : State) : Served s (s, State.readFaults operands s) := by
  unfold State.readFaults
  split
  · split
    · exact .refused _
    · exact .read _
  · exact .refused _

theorem writeLink_live (s : State) (l : LinkNo) (record : LinkRecord) (timer : Option TimerRecord) (m : LinkNo) :
    (s.writeLink l record timer).links[m].state = s.links[m].state ∧
      (s.writeLink l record timer).links[m].session = s.links[m].session := by
  have hlinks : (s.writeLink l record timer).links = (s.withLink l { s.links[l] with record := record }).links := by
    unfold State.writeLink
    dsimp only
    split <;> rfl
  rw [hlinks]
  by_cases hm : m = l
  · subst hm
    rw [State.withLink_self]
    exact ⟨rfl, rfl⟩
  · rw [State.withLink_ne _ _ hm]
    exact ⟨rfl, rfl⟩

theorem setLink_served (operands : List Byte) (s : State) : Served s (State.setLink operands s) := by
  unfold State.setLink
  split
  · split
    · exact .refused _
    · split
      · exact .refused _
      · dsimp only
        split
        · exact .refused _
        · split
          · exact .refused _
          · exact .taken _ (writeLink_live s _ _ _)
  · exact .refused _

theorem freeze_served (operands : List Byte) (s : State) : Served s (State.freeze operands s) := by
  unfold State.freeze
  split
  · split
    · exact .refused _
    · exact .changed (s := s) (by rfl) _
  · exact .refused _

theorem writeEntry_served (operands : List Byte) (s : State) : Served s (State.writeEntry operands s) := by
  unfold State.writeEntry
  split
  · split
    · split
      · exact .refused _
      · split
        · exact .refused _
        · dsimp only
          split
          · exact .refused _
          · split
            · exact .changed (s := s) (setBank_links ..) _
            · exact .refused _
    · exact .refused _
  · exact .refused _

theorem writeWindow_served (operands : List Byte) (s : State) : Served s (State.writeWindow operands s) := by
  unfold State.writeWindow
  split
  · split
    · exact .refused _
    · split
      · split
        · exact .changed (s := s) (setBank_links ..) _
        · exact .refused _
      · exact .refused _
  · exact .refused _

theorem commit_served (operands : List Byte) (s : State) : Served s (State.commit operands s) := by
  unfold State.commit
  split
  · split
    · exact .refused _
    · split
      · exact .refused _
      · split
        · exact .changed (s := s) (by rfl) _
        · exact .changed (s := s) (by rfl) _
        · exact .refused _
  · exact .refused _

theorem cancel_served (operands : List Byte) (s : State) : Served s (State.cancel operands s) := by
  unfold State.cancel
  split
  · split
    · dsimp only
      split
      · exact .refused _
      · exact .changed (s := s) (by rfl) _
    · exact .refused _
  · exact .refused _

theorem clearFaults_served (operands : List Byte) (s : State) : Served s (State.clearFaults operands s) := by
  unfold State.clearFaults
  split
  · split
    · exact .refused _
    · split
      · exact .changed (s := s) (by rfl) _
      · exact .refused _
  · exact .refused _

/-! ## The operations that go on after the step -/

theorem enterTraining_lasts {b : State} {r : Request} (h : Lasts b r) {l : LinkNo} (hother : r.link ≠ l) :
    Lasts (b.modLink l (Link.enterTraining l)) r := by
  have hlink : (b.modLink l (Link.enterTraining l)).links[r.link] = b.links[r.link] := State.withLink_ne b _ hother
  unfold Lasts
  rw [hlink]
  exact h

theorem resetLinkNow_lasts {b : State} {r : Request} (h : Lasts b r) {l : LinkNo} (hother : r.link ≠ l) :
    Lasts (b.resetLinkNow l) r := by
  have hlasts := h
  obtain ⟨hup, hsession⟩ := h
  unfold State.resetLinkNow
  split
  · exact hlasts
  · obtain ⟨hstate, hsame⟩ := sessionEnd_live b hother
    exact enterTraining_lasts ⟨hstate.trans hup, hsame.trans hsession⟩ hother
  · exact enterTraining_lasts hlasts hother
  · exact enterTraining_lasts hlasts hother

theorem resetLink_treated {s : State} {op : Operation} {r : Request} (h : Asked s op r) :
    Treated s r (State.resetLink r (dequeued s)) := by
  have hlasts : Lasts (dequeued s) r := (lasts_of_asked h : Lasts s r)
  unfold State.resetLink
  split
  · split
    · exact .of_fail h _
    · next l _ =>
      dsimp only
      split
      · exact .of_ok hlasts _ true
      · next hother => exact .of_ok (resetLinkNow_lasts hlasts (Ne.symm hother)) _ false
  · exact .of_fail h _

theorem startRestart_treated {s : State} {op : Operation} {r : Request} (h : Asked s op r) :
    Treated s r (State.startRestart r (dequeued s)) := by
  unfold State.startRestart
  split
  · exact .silent rfl
  · exact .of_fail h _

theorem startMask_treated {s : State} {op : Operation} {r : Request} (h : Asked s op r) :
    Treated s r (State.startMask r (dequeued s)) := by
  unfold State.startMask
  split
  · split
    · exact .silent rfl
    · exact .of_fail h _
  · exact .of_fail h _

theorem unmaskOn_treated {s : State} {r : Request} (hlasts : Lasts s r) (pace : Nat) :
    ∀ (b : State) (u : UnmaskRun), b.links = s.links → u.request = r → Treated s r (b.unmaskOn u pace) := by
  induction pace with
  | zero =>
    intro b u hlinks _
    exact .silent (by rw [← hlinks]; rfl)
  | succ pace ih =>
    intro b u hlinks hrequest
    unfold State.unmaskOn
    split
    · have hb : Lasts { b with current := none } r := by
        unfold Lasts
        rw [hlinks]
        exact hlasts
      subst hrequest
      exact .of_ok hb u.result false
    · split
      · exact ih _ _ hlinks hrequest
      · exact .silent (by rw [← hlinks])

theorem startUnmask_treated {s : State} {op : Operation} {r : Request} (h : Asked s op r) (pace : Nat) :
    Treated s r (State.startUnmask pace r (dequeued s)) := by
  unfold State.startUnmask
  split
  · split
    · exact unmaskOn_treated (lasts_of_asked h) pace (dequeued s) _ rfl rfl
    · exact .of_fail h _
  · exact .of_fail h _

theorem takeSave_treated {s : State} {op : Operation} {r : Request} (h : Asked s op r) :
    Treated s r (State.takeSave r (dequeued s)) := by
  unfold State.takeSave
  split
  · split
    · exact .of_fail h _
    · split
      · exact .of_fail h _
      · split
        · exact .of_fail h _
        · split
          · exact .of_fail h _
          · exact .silent rfl
  · exact .of_fail h _

/-! ## Every operation -/

theorem operationBody_treated {s : State} {op : Operation} {r : Request} (h : Asked s op r) (pace : Nat) :
    Treated s r (operationBody pace op r (dequeued s)) := by
  cases op with
  | readStatus => exact .of_read h readStatus_served
  | readLink => exact .of_read h readLink_served
  | setLink => exact .of_served h setLink_served
  | readTarget => exact .of_read h readTarget_served
  | resetLink => exact resetLink_treated h
  | restart => exact startRestart_treated h
  | freeze => exact .of_served h freeze_served
  | writeEntry => exact .of_served h writeEntry_served
  | writeWindow => exact .of_served h writeWindow_served
  | readEntry => exact .of_read h readEntry_served
  | readWindow => exact .of_read h readWindow_served
  | commit => exact .of_served h commit_served
  | cancel => exact .of_served h cancel_served
  | readPending => exact .of_read h readPending_served
  | mask => exact startMask_treated h
  | unmask => exact startUnmask_treated h pace
  | readMask => exact .of_read h readMask_served
  | readFaults => exact .of_read h readFaults_served
  | clearFaults => exact .of_served h clearFaults_served
  | save => exact takeSave_treated h

/-- Settles O25: by the right of the link, and then by what serves the operation. -/
theorem refusedRequestsChangeNothing : Obligations.RefusedRequestsChangeNothing := by
  intro op pace s t r q sequence status results hasked hexec hlast hframe hstatus
  rw [exec_command pace hasked.1] at hexec
  cases hexec
  refine Treated.of_response ?_ hlast hframe hstatus
  cases hright : s.links[r.link].record.rights.has op.right with
  | false => exact serve_denied hasked hright _ ▸ .refused .denied
  | true =>
    have hgranted : Granted s op r r.operands := ⟨hasked, rfl, hright⟩
    rw [State.serve_granted hgranted]
    exact operationBody_treated hasked pace

end Sys2Proof.Proofs
end
